-- ==== Sys2Proof/Word.lean ====
section
/-! DEFINITION. The number and name types of the NZG-4816: bytes and 16-bit words of frames, sets of drive
lines, and the numbers by which the part's slots, lines, groups, timebases, inputs and ports are named. -/

namespace Sys2Proof

/-- One byte of a frame. -/
abbrev Byte := BitVec 8

/-- A two-byte field of a frame (R167: least significant byte first on the wire). -/
abbrev Word := BitVec 16

/-- A set of drive lines, bit n for Dn (R5, R169): no order, no duplicates. -/
abbrev LineSet := BitVec 16

/-- A slot of the permit table, 0 to 47 (R1). -/
abbrev SlotId := Fin 48

/-- A drive line D0 to D15 (R83). -/
abbrev LineId := Fin 16

/-- An exclusion group G0 to G7 (R88). -/
abbrev GroupId := Fin 8

/-- A timebase TB0 to TB3 (R118). -/
abbrev TimebaseId := Fin 4

/-- A trigger input T0 to T7 (R128). -/
abbrev InputId := Fin 8

/-- A command port P0 to P2 (R156); P0 is the supervisor port (R144). -/
abbrev Port := Fin 3

/-- A request's sequence number, 0 to 15 (R160). -/
abbrev Seq := BitVec 4

/-- Every slot number, ascending. -/
def allSlots : List SlotId := List.finRange 48

/-- Every line number, ascending. -/
def allLines : List LineId := List.finRange 16

/-- Every group number, ascending. -/
def allGroups : List GroupId := List.finRange 8

/-- Every timebase number, ascending. -/
def allTimebases : List TimebaseId := List.finRange 4

/-- Every input number, ascending. -/
def allInputs : List InputId := List.finRange 8

end Sys2Proof
end

