-- ==== Sys2Proof/Config.lean ====
section
/-! DEFINITION. What the manual leaves open. Both constants are opaque: nothing in Lean can evaluate them or
prove a value of them, so a statement about the model holds whatever they are. Each is applied to the plain
counter State.freeCount, which every use advances. -/

namespace Sys2Proof

/-- DESIGN CHOICE (notes/assumptions/1.md). The order, left open by R21, R61, R64, R107 and R136, in which
the permits or groups reached by ONE happening take their changes: at draw c, item n comes in ascending order of
freeKey c n. Every order of distinct items arises from some freeKey, so no order is favoured. -/
opaque Config.freeKey : Nat → Nat → Nat

/-- DESIGN CHOICE (notes/assumptions/2.md). The value of a response byte that R169 to R172 lay out and for
which they state no content (a field that is absent): at draw c, the byte numbered n of the response. -/
opaque Config.freeByte : Nat → Nat → Byte

end Sys2Proof
end

