-- ==== Sys2Proof/Syntax.lean ====
section
/-! DEFINITION. The part's vocabulary as plain syntax: the names of 00_scope.md, the response statuses (R173),
the decoded contents of every request of the catalogue (R170), and Instr, the commands: one constructor for each
row of spec/opcode_table.json. -/

namespace Sys2Proof

/-- An edge of a trigger input as a trigger, renewal source or timebase source names it (R48, R71, R118). -/
inductive Edge where
  | rise
  | fall
  | both
  deriving DecidableEq, Repr

/-- The five notice kinds (R134). -/
inductive Notice where
  | triggered
  | blocked
  | granted
  | missed
  | ended
  deriving DecidableEq, Repr

/-- The states of a slot that holds a permit (R21); EMPTY is the slot without a record. -/
inductive PState where
  | idle
  | arming
  | armed
  | waiting
  | blocked
  | active
  | resting
  | ended
  deriving DecidableEq, Repr

/-- The nine end reasons (R39). -/
inductive EndReason where
  | completed
  | released
  | revoked
  | expired
  | renewEarly
  | starved
  | quenched
  | lineLocked
  | upstream
  deriving DecidableEq, Repr

/-- What a trigger does to a running permit (R53, R54). -/
inductive RetriggerPolicy where
  | ignore
  | restart
  deriving DecidableEq, Repr

/-- What teardown does to a running permit (R150). -/
inductive OrphanPolicy where
  | endRun
  | runOut
  deriving DecidableEq, Repr

/-- The cause kept with a LOCKED line (R105, R106). -/
inductive LockCause where
  | sense
  | manual
  deriving DecidableEq, Repr

/-- The polarity of a drive line's pin (R85). -/
inductive Polarity where
  | activeHigh
  | activeLow
  deriving DecidableEq, Repr

/-- The polarity of a sense input against its pin (R103). -/
inductive SensePolarity where
  | same
  | inverted
  deriving DecidableEq, Repr

/-- The sample dividers of an input (R128, R132). -/
inductive Divider where
  | by1
  | by8
  | by64
  | by512
  deriving DecidableEq, Repr

/-- The source of a timebase (R118): REFCLK, the ticks of a timebase, or the filtered edges of an input. -/
inductive TimebaseSource where
  | refclk
  | tick (k : TimebaseId)
  | edge (n : InputId) (e : Edge)
  deriving DecidableEq, Repr

/-- The response statuses of R173. -/
inductive Status where
  | ok
  | notReady
  | badFrame
  | badRequest
  | badField
  | noSession
  | notOwner
  | notPermitted
  | staleHandle
  | wrongState
  | tableFull
  | quotaExceeded
  | groupConflict
  | lineLocked
  | referenced
  | inUse
  | quenched
  | timebaseStopped
  | tooEarly
  deriving DecidableEq, Repr

/-- A handle as two bytes of a frame (R169): the slot byte may name no slot. -/
structure RawHandle where
  slot : Byte
  gen : Byte
  deriving DecidableEq, Repr

/-- The fields of a CREATE request, each as the frame carries it, unchecked (R170). -/
structure CreateFields where
  shape : Byte
  lines : LineSet
  timebase : Byte
  trigKind : Byte
  trigInput : Byte
  pred : RawHandle
  gatePresent : Byte
  gate : RawHandle
  renewal : Byte
  renewalInput : Byte
  wait : Word
  hold : Word
  rest : Word
  repeats : Word
  minInterval : Word
  blockLimit : Word
  mask : Byte
  deriving DecidableEq, Repr

/-- The fields of an AMEND request, each as the frame carries it, unchecked (R170). -/
structure AmendFields where
  handle : RawHandle
  mode : Byte
  fieldMask : Word
  wait : Word
  hold : Word
  rest : Word
  repeats : Word
  minInterval : Word
  blockLimit : Word
  mask : Byte
  retrigger : Byte
  orphan : Byte
  deriving DecidableEq, Repr

/-- The requests of the catalogue (R170) that a port's holder can keep, with their fields unchecked. NOP is not
held (R159). -/
inductive Request where
  | openSession
  | closeSession
  | status
  | readLines
  | create (f : CreateFields)
  | arm (h : RawHandle)
  | fire (h : RawHandle)
  | renew (h : RawHandle)
  | release (h : RawHandle)
  | amend (f : AmendFields)
  | retire (h : RawHandle)
  | query (h : RawHandle)
  | listTable (start : Byte)
  | nextAttention
  | ackPermit (h : RawHandle) (kinds : Byte)
  | ackLine (line : Byte)
  | ackQuench
  | revoke (h : RawHandle)
  | setTimebase (timebase kind argument : Byte) (divisor : Word)
  | startTimebase (timebase : Byte)
  | stopTimebase (timebase : Byte)
  | setInput (input depth divider : Byte)
  | setLine (line polarity check tolerance timebase sensePolarity : Byte)
  | setGroup (group : Byte) (members : Word) (gap timebase : Byte)
  | lockLine (line : Byte)
  | clearLine (line : Byte)
  | setQuota (port quota : Byte)
  | quenchSet
  | quenchClear
  | clearTable
  deriving DecidableEq, Repr

/-- The commands: one constructor per row of spec/opcode_table.json, each one happening at the block that owns
the state concerned (00_scope.md, "Happenings and their order").

The rows from OPEN to CLEAR_TABLE, and UNKNOWN_REQUEST, are executions by the request engine: the request itself
is the one PENDING in the holder of the port whose turn it is (R163), so the command carries no operand.
The rows of ticks and edges name the user that takes the tick or edge; raw levels of pins that the part samples
are operands. -/
inductive Instr where
  /-- RESET: power-on, or RESET_N going low (R1). -/
  | reset
  /-- RESET_RELEASE: RESET_N going high; whether QUENCH_N stands low then (R112). -/
  | resetRelease (quenchLow : Bool)
  /-- TRANSACTION_START: the fall of the port's chip select (R166). -/
  | transactionStart (p : Port)
  /-- REQUEST_FRAME: the rise of the port's chip select after 8 or more clocks; the levels of SDI sampled at the rising edges of
  the clock since its fall, the first sampled first (R156, R161). -/
  | requestFrame (p : Port) (bits : List Bool)
  /-- BREAK: the rise of the port's chip select after fewer than 8 clocks (R162). -/
  | breakPort (p : Port)
  /-- UNKNOWN_REQUEST: the engine executes a request that its decoding refuses (R164). -/
  | unknownRequest
  /-- OPEN (R146). -/
  | openSession
  /-- CLOSE (R147). -/
  | closeSession
  /-- STATUS (R145). -/
  | status
  /-- READ_LINES (R102). -/
  | readLines
  /-- CREATE (R10 to R15). -/
  | create
  /-- ARM (R23, R24). -/
  | arm
  /-- FIRE (R49). -/
  | fire
  /-- RENEW (R67 to R69). -/
  | renew
  /-- RELEASE (R41). -/
  | release
  /-- AMEND (R74 to R81). -/
  | amend
  /-- RETIRE (R19, R20). -/
  | retire
  /-- QUERY (R17). -/
  | query
  /-- LIST (R18). -/
  | listTable
  /-- NEXT_ATTENTION (R140). -/
  | nextAttention
  /-- ACK_PERMIT_ENTRY (R141). -/
  | ackPermitEntry
  /-- ACK_LINE_ENTRY (R142). -/
  | ackLineEntry
  /-- ACK_QUENCH_ENTRY (R142). -/
  | ackQuenchEntry
  /-- REVOKE (R43). -/
  | revoke
  /-- SET_TIMEBASE (R122 to R124). -/
  | setTimebase
  /-- START_TIMEBASE (R125). -/
  | startTimebase
  /-- STOP_TIMEBASE (R126, R127). -/
  | stopTimebase
  /-- SET_INPUT (R132). -/
  | setInput
  /-- SET_LINE (R86, R87). -/
  | setLine
  /-- SET_GROUP (R89, R90). -/
  | setGroup
  /-- LOCK_LINE (R106, R107). -/
  | lockLine
  /-- CLEAR_LINE (R110). -/
  | clearLine
  /-- SET_QUOTA (R149). -/
  | setQuota
  /-- QUENCH_SET (R113). -/
  | quenchSet
  /-- QUENCH_CLEAR (R113). -/
  | quenchClear
  /-- CLEAR_TABLE (R154, R155). -/
  | clearTable
  /-- TIMEBASE_SOURCE_EVENT: a REFCLK edge, tick or filtered edge taken by a timebase (R119, R120). -/
  | timebaseSourceEvent (tb : TimebaseId)
  /-- TIMEBASE_TICK: the source event that brings the running count to zero (R120, R121). -/
  | timebaseTick (tb : TimebaseId)
  /-- INPUT_SAMPLE: a rising edge of REFCLK at an input, with the raw level of its pin (R129, R130). -/
  | inputSample (n : InputId) (raw : Bool)
  /-- FILTERED_EDGE: the sample at which the filtered level changes (R130, R131). -/
  | filteredEdge (n : InputId) (raw : Bool)
  /-- INPUT_TRIGGER: a filtered edge taken by a permit as a trigger (R48). -/
  | inputTrigger (i : SlotId)
  /-- INPUT_RENEWAL: a filtered edge taken by a lease as a renewal (R71, R72). -/
  | inputRenewal (i : SlotId)
  /-- ARMING_TICK: the tick that completes ARMING (R25). -/
  | armingTick (i : SlotId)
  /-- PHASE_TICK: a tick taken by a permit in WAITING, ACTIVE or RESTING (R27, R28, R32, R34). -/
  | phaseTick (i : SlotId)
  /-- WAIT_END: the tick that ends a wait (R28). -/
  | waitEnd (i : SlotId)
  /-- PULSE_HOLD_END: the tick that ends a PULSE's hold (R32). -/
  | pulseHoldEnd (i : SlotId)
  /-- TRAIN_HOLD_END: the tick that ends a TRAIN's hold (R33). -/
  | trainHoldEnd (i : SlotId)
  /-- REST_END: the tick that ends a TRAIN's rest (R34). -/
  | restEnd (i : SlotId)
  /-- LEASE_EXPIRY: the tick that expires a LEASE (R35). -/
  | leaseExpiry (i : SlotId)
  /-- BLOCKED_TICK: a tick taken in BLOCKED (R36). -/
  | blockedTick (i : SlotId)
  /-- STARVATION: the tick at which blocked age reaches the block limit (R36). -/
  | starvation (i : SlotId)
  /-- GAP_TICK: a tick of the group timebase taken in GAP (R95). -/
  | gapTick (g : GroupId)
  /-- GAP_END: the tick that brings the remaining gap to zero (R95, R96). -/
  | gapEnd (g : GroupId)
  /-- SENSE_CHECK: a tick of the check timebase taken by a line, with the level of Sn (R103). -/
  | senseCheck (l : LineId) (senseHigh : Bool)
  /-- SENSE_LOCK: the tick at which the mismatch count reaches the tolerance (R105). -/
  | senseLock (l : LineId) (senseHigh : Bool)
  /-- QUENCH_PIN_CHANGE: a change of the QUENCH_N level; whether the pin now stands low (R112). -/
  | quenchPinChange (low : Bool)
  deriving DecidableEq, Repr

end Sys2Proof
end

