-- ==== Sys2Proof/Machine/State.lean ====
section
/-! DEFINITION. The state of the part as plain data, and the state right after reset. Every piece is one the
manual gives (INVENTORY.md lists them with their rules) but for three that are the model's own: due (happenings
that a tick or an edge has made and that its users have not yet taken), freeCount (how many open choices have
been drawn) and pending (the commands waiting to be taken). Derived pins (Dn, INT_N, SDO) and the quench condition
are functions of this state, in Machine/Flags.lean and Machine/PortUnit.lean. -/

namespace Sys2Proof.Machine

/-- The part has no state in which it stops with a fault: every happening has a next state. No constructor. -/
inductive Fault where
  deriving DecidableEq, Repr

/-- Why a command has no meaning. -/
inductive Refusal where
  /-- Raised by exec for a command that the model gives no meaning yet. Safe: the run stops. No arm raises it. -/
  | notModelled (mnemonic : String)
  deriving DecidableEq, Repr

/-- A set of notice kinds (R134, R135): no order, no duplicates. -/
structure NoticeSet where
  triggered : Bool := false
  blocked : Bool := false
  granted : Bool := false
  missed : Bool := false
  ended : Bool := false
  deriving DecidableEq, Repr

/-- The name of a permit: its slot and the slot's generation (R3). -/
structure Handle where
  slot : SlotId
  gen : Byte
  deriving DecidableEq, Repr

/-- The owner of a permit: a port and the number of the session that created it (R4). -/
structure Owner where
  port : Port
  session : Byte
  deriving DecidableEq, Repr

/-- A permit's trigger (R6). The predecessor is absent once its slot was retired under an orphan (R7). -/
inductive Trigger where
  | soft
  | input (n : InputId) (e : Edge)
  | chain (pred : Option Handle)
  deriving DecidableEq, Repr

/-- Where a lease's renewals come from (R7). -/
inductive RenewalSource where
  | port
  | input (n : InputId) (e : Edge)
  deriving DecidableEq, Repr

/-- A permit's shape with the fields that apply to that shape alone (R5, R8): for every other shape they are
absent, as R8 has it. -/
inductive Shape where
  | pulse
  | train (rest repeats : Nat)
  | lease (source : RenewalSource) (minInterval : Nat)
  deriving DecidableEq, Repr

/-- A permit record (R5 to R9). -/
structure Permit where
  owner : Option Owner
  shape : Shape
  lines : LineSet
  timebase : TimebaseId
  trigger : Trigger
  gate : Option Handle
  wait : Nat
  hold : Nat
  blockLimit : Option Nat
  mask : NoticeSet
  retrigger : RetriggerPolicy
  orphan : OrphanPolicy
  state : PState
  remaining : Nat
  cycles : Nat
  renewalAge : Nat
  blockedAge : Nat
  endReason : Option EndReason
  pending : NoticeSet
  deriving DecidableEq, Repr

/-- A slot of the table (R1): its generation, and the permit record unless the slot is EMPTY. -/
structure Slot where
  gen : Byte
  permit : Option Permit
  deriving DecidableEq, Repr

/-- A line's condition, with the lock cause (R83). -/
inductive Condition where
  | normal
  | locked (cause : LockCause)
  deriving DecidableEq, Repr

/-- A drive line (R83). -/
structure Line where
  polarity : Polarity
  senseOn : Bool
  tolerance : Nat
  checkTimebase : TimebaseId
  sensePolarity : SensePolarity
  claims : Nat
  asserted : Bool
  condition : Condition
  mismatch : Nat
  deriving DecidableEq, Repr

/-- An exclusion group's state (R91). -/
inductive GroupState where
  | free
  | held (holder : LineId)
  | gap (remaining : Nat)
  deriving DecidableEq, Repr

/-- An exclusion group (R88). -/
structure Group where
  members : LineSet
  gap : Nat
  timebase : TimebaseId
  state : GroupState
  queue : List Handle
  deriving DecidableEq, Repr

/-- A timebase (R118). -/
structure Timebase where
  source : TimebaseSource
  divisor : Nat
  pendingDivisor : Option Nat
  running : Bool
  count : Nat
  deriving DecidableEq, Repr

/-- A trigger input (R128); sampled says whether the first sample after reset has been taken. -/
structure Input where
  depth : Nat
  divider : Divider
  phase : Nat
  level : Bool
  agreement : Nat
  sampled : Bool
  deriving DecidableEq, Repr

/-- An entry of an attention list (R136, R137). -/
inductive Entry where
  | permit (h : Handle)
  | line (l : LineId) (cause : LockCause)
  | quench
  deriving DecidableEq, Repr

/-- A request frame that passed the frame check, less its length and CRC (R161, R167). -/
structure Frame where
  seq : Seq
  code : Byte
  fields : List Byte
  deriving DecidableEq, Repr

/-- A port's request holder (R161). -/
inductive Holder where
  | vacant
  | pending (f : Frame)
  | done
  deriving DecidableEq, Repr

/-- A response, less the attention count and the CRC that are filled in as it is shifted out (R166, R168). -/
structure Response where
  seq : Option Seq
  code : Byte
  status : Status
  data : List Byte
  deriving DecidableEq, Repr

/-- The response frame that a transaction in progress shifts out: fixed at the fall of chip select (R166). The field free
is what a control byte without a sequence number has in its place (notes/assumptions/2.md). -/
structure ShiftOut where
  response : Response
  attention : Nat
  free : Seq
  deriving DecidableEq, Repr

/-- A port unit (R136, R146, R148, R161): session, owned count, quota, attention list, holder, last sequence
number, stored response, and the transaction in progress. -/
structure PortUnit where
  isOpen : Bool
  session : Byte
  owned : Nat
  quota : Nat
  attention : List Entry
  holder : Holder
  lastSeq : Option Seq
  stored : Response
  transaction : Option ShiftOut
  deriving DecidableEq, Repr

/-- A happening that a tick (R121) or a filtered edge (R131) has made at one of its users and that the user
has not yet taken (notes/assumptions/9.md). -/
inductive Due where
  | permitTick (h : Handle)
  | groupTick (k : TimebaseId) (g : GroupId)
  | lineTick (k : TimebaseId) (l : LineId)
  | sourceTick (k : TimebaseId) (tb : TimebaseId)
  | sourceEdge (n : InputId) (rising : Bool) (tb : TimebaseId)
  | trigger (h : Handle)
  | renewal (h : Handle)
  deriving DecidableEq, Repr

/-- The state of the part (00_scope.md, "How the part is built"). -/
structure State where
  slots : Vector Slot 48
  lines : Vector Line 16
  groups : Vector Group 8
  timebases : Vector Timebase 4
  inputs : Vector Input 8
  ports : Vector PortUnit 3
  lastServed : Port
  quenchLow : Bool
  latch : Bool
  resetLow : Bool
  due : List Due
  freeCount : Nat
  pending : List Instr
  deriving DecidableEq, Repr

/-- An EMPTY slot of generation 0 (R1). -/
def Slot.reset : Slot := { gen := 0, permit := none }

/-- A line's reset values (R83). -/
def Line.reset : Line :=
  { polarity := .activeHigh, senseOn := false, tolerance := 1, checkTimebase := 0, sensePolarity := .same,
    claims := 0, asserted := false, condition := .normal, mismatch := 0 }

/-- A group's reset values (R88). -/
def Group.reset : Group := { members := 0, gap := 0, timebase := 0, state := .free, queue := [] }

/-- A timebase's reset values (R118). -/
def Timebase.reset : Timebase :=
  { source := .refclk, divisor := 1, pendingDivisor := none, running := false, count := 1 }

/-- An input's reset values (R128); until the first sample the filtered level reads low. -/
def Input.reset : Input :=
  { depth := 1, divider := .by1, phase := 1, level := false, agreement := 0, sampled := false }

/-- The idle response: request code NOP, status OK, no sequence number, no data (R161). -/
def Response.idle : Response := { seq := none, code := 0, status := .ok, data := [] }

/-- A port's reset values (R136, R146, R161). -/
def PortUnit.reset : PortUnit :=
  { isOpen := false, session := 0, owned := 0, quota := 16, attention := [], holder := .vacant, lastSeq := none,
    stored := .idle, transaction := none }

/-- The part right after reset, RESET_N still low: every item at the reset value the manual states (R1, R83, R88,
R112, R118, R128, R136, R146, R161, R163). DESIGN CHOICE (notes/assumptions/3.md): quenchLow is false until RESET_N
goes high, and freeCount starts at 0. -/
def State.reset : State :=
  { slots := Vector.replicate 48 Slot.reset
    lines := Vector.replicate 16 Line.reset
    groups := Vector.replicate 8 Group.reset
    timebases := Vector.replicate 4 Timebase.reset
    inputs := Vector.replicate 8 Input.reset
    ports := Vector.replicate 3 PortUnit.reset
    lastServed := 2
    quenchLow := false
    latch := false
    resetLow := true
    due := []
    freeCount := 0
    pending := [] }

end Sys2Proof.Machine
end

