-- ==== Sys2Proof/Decode.lean ====
section
/-! DEFINITION. Frames and their encodings (R156 to R158, R167 to R170): bits and bytes, the CRC, taking a request frame apart,
decoding a request's code and fields, the encoder of requests and request frames written from the same catalogue,
and the response frame. spec/opcode_table.json gives no row any bits, so decodeTableWord reads no command. -/

namespace Sys2Proof

open Sys2Proof.Machine

/-- The command that a word of spec/opcode_table.json spells. The table gives bits to no row: none. -/
def decodeTableWord (_nbits _w : Nat) : Option Instr := none

/-- The two bytes of a field sent least significant byte first, as a word (R167). -/
def word (lo hi : Byte) : Word := hi ++ lo

/-- The less significant byte of a word. -/
def lowByte (w : Word) : Byte := w.setWidth 8

/-- The more significant byte of a word. -/
def highByte (w : Word) : Byte := (w >>> 8).setWidth 8

/-- A word as its two bytes, least significant first (R167). -/
def wordBytes (w : Word) : List Byte := [lowByte w, highByte w]

/-- The bits of a byte as a port sends and receives them, most significant first (R156). -/
def bitsOf (b : Byte) : List Bool := [7, 6, 5, 4, 3, 2, 1, 0].map b.getLsbD

/-- One sampled bit shifted into a byte from below, so that the first of eight ends as the most significant (R156). -/
def shiftIn (b : Byte) (bit : Bool) : Byte := (b <<< 1) ||| (if bit then 1 else 0)

/-- The whole bytes of the bits that a port has sampled, eight to a byte; the bits after the last whole byte are discarded
(R156). -/
def bytesOf : List Bool → List Byte
  | b7 :: b6 :: b5 :: b4 :: b3 :: b2 :: b1 :: b0 :: rest => [b7, b6, b5, b4, b3, b2, b1, b0].foldl shiftIn 0 :: bytesOf rest
  | _ => []

/-- One bit taken into the CRC: polynomial x^16 + x^12 + x^5 + 1 (R157). -/
def crcBit (crc : Word) (bit : Bool) : Word :=
  let shifted := crc <<< 1
  if crc.msb ^^ bit then shifted ^^^ 0x1021#16 else shifted

/-- One byte taken into the CRC, most significant bit first (R157). -/
def crcByte (crc : Word) (b : Byte) : Word :=
  [7, 6, 5, 4, 3, 2, 1, 0].foldl (fun c k => crcBit c (b.getLsbD k)) crc

/-- The CRC-16 over a list of bytes, starting from all ones, with no final inversion (R157). -/
def crc16 (bytes : List Byte) : Word := bytes.foldl crcByte 0xFFFF#16

/-- A body followed by its CRC, least significant byte first (R157). -/
def withCrc (body : List Byte) : List Byte := body ++ wordBytes (crc16 body)

/-- The frame check of R158 and the taking apart of a request frame (R167). Bytes beyond the declared length are
padding (R156). None where the check fails. -/
def parseFrame : List Byte → Option Frame
  | [] => none
  | len :: received =>
    let l := len.toNat
    if l < 5 ∨ 64 < l ∨ received.length + 1 < l then none
    else
      let frame := len :: received.take (l - 1)
      let body := frame.take (l - 2)
      match body, frame.drop (l - 2) with
      | _ :: control :: code :: fields, [crcLow, crcHigh] =>
        if control.toNat < 16 ∧ word crcLow crcHigh = crc16 body then
          some { seq := control.setWidth 4, code := code, fields := fields }
        else none
      | _, _ => none

/-- A request frame with its length, control byte and CRC (R167). -/
def encodeFrame (f : Frame) : List Byte :=
  withCrc (BitVec.ofNat 8 (f.fields.length + 5) :: f.seq.setWidth 8 :: f.code :: f.fields)

/-- An ACK's target (R164 check 3, R170): PERMIT with a handle and a notice set, LINE with a line number in the
first byte of the handle's place, or QUENCH. Bytes the target kind does not use are not read. -/
def decodeAck (kind b1 b2 kinds : Byte) : Except Status Request :=
  match kind.toNat with
  | 1 => .ok (.ackPermit ⟨b1, b2⟩ kinds)
  | 2 => .ok (.ackLine b1)
  | 3 => .ok .ackQuench
  | _ => .error .badField

/-- The engine's decoding of a held request (R164): BAD_REQUEST for an unknown code or a wrong length, BAD_FIELD for
an ACK of no known target kind, and otherwise the request with its fields as the catalogue of R170 lays them out. -/
def decodeRequest (code : Byte) (fields : List Byte) : Except Status Request :=
  match code.toNat, fields with
  | 0x01, [] => .ok .openSession
  | 0x02, [] => .ok .closeSession
  | 0x03, [] => .ok .status
  | 0x04, [] => .ok .readLines
  | 0x10, [shape, l0, l1, tb, kind, ti, ps, pg, gp, gs, gg, rs, ri, w0, w1, h0, h1, r0, r1, n0, n1, m0, m1, b0, b1, mask] =>
    .ok (.create
      { shape := shape, lines := word l0 l1, timebase := tb, trigKind := kind, trigInput := ti, pred := ⟨ps, pg⟩,
        gatePresent := gp, gate := ⟨gs, gg⟩, renewal := rs, renewalInput := ri, wait := word w0 w1, hold := word h0 h1,
        rest := word r0 r1, repeats := word n0 n1, minInterval := word m0 m1, blockLimit := word b0 b1, mask := mask })
  | 0x11, [s, g] => .ok (.arm ⟨s, g⟩)
  | 0x12, [s, g] => .ok (.fire ⟨s, g⟩)
  | 0x13, [s, g] => .ok (.renew ⟨s, g⟩)
  | 0x14, [s, g] => .ok (.release ⟨s, g⟩)
  | 0x15, [s, g, mode, f0, f1, w0, w1, h0, h1, r0, r1, n0, n1, m0, m1, b0, b1, mask, rp, op] =>
    .ok (.amend
      { handle := ⟨s, g⟩, mode := mode, fieldMask := word f0 f1, wait := word w0 w1, hold := word h0 h1,
        rest := word r0 r1, repeats := word n0 n1, minInterval := word m0 m1, blockLimit := word b0 b1, mask := mask,
        retrigger := rp, orphan := op })
  | 0x16, [s, g] => .ok (.retire ⟨s, g⟩)
  | 0x17, [s, g] => .ok (.query ⟨s, g⟩)
  | 0x18, [start] => .ok (.listTable start)
  | 0x19, [] => .ok .nextAttention
  | 0x1A, [kind, b1, b2, kinds] => decodeAck kind b1 b2 kinds
  | 0x20, [s, g] => .ok (.revoke ⟨s, g⟩)
  | 0x21, [tb, kind, arg, d0, d1] => .ok (.setTimebase tb kind arg (word d0 d1))
  | 0x22, [tb] => .ok (.startTimebase tb)
  | 0x23, [tb] => .ok (.stopTimebase tb)
  | 0x24, [n, depth, divider] => .ok (.setInput n depth divider)
  | 0x25, [l, pol, check, tol, tb, spol] => .ok (.setLine l pol check tol tb spol)
  | 0x26, [g, m0, m1, gap, tb] => .ok (.setGroup g (word m0 m1) gap tb)
  | 0x27, [l] => .ok (.lockLine l)
  | 0x28, [l] => .ok (.clearLine l)
  | 0x29, [p, q] => .ok (.setQuota p q)
  | 0x2A, [] => .ok .quenchSet
  | 0x2B, [] => .ok .quenchClear
  | 0x2C, [] => .ok .clearTable
  | _, _ => .error .badRequest

/-- The request code of the catalogue (R170). -/
def Request.code : Request → Byte
  | .openSession => 0x01
  | .closeSession => 0x02
  | .status => 0x03
  | .readLines => 0x04
  | .create _ => 0x10
  | .arm _ => 0x11
  | .fire _ => 0x12
  | .renew _ => 0x13
  | .release _ => 0x14
  | .amend _ => 0x15
  | .retire _ => 0x16
  | .query _ => 0x17
  | .listTable _ => 0x18
  | .nextAttention => 0x19
  | .ackPermit _ _ => 0x1A
  | .ackLine _ => 0x1A
  | .ackQuench => 0x1A
  | .revoke _ => 0x20
  | .setTimebase _ _ _ _ => 0x21
  | .startTimebase _ => 0x22
  | .stopTimebase _ => 0x23
  | .setInput _ _ _ => 0x24
  | .setLine _ _ _ _ _ _ => 0x25
  | .setGroup _ _ _ _ => 0x26
  | .lockLine _ => 0x27
  | .clearLine _ => 0x28
  | .setQuota _ _ => 0x29
  | .quenchSet => 0x2A
  | .quenchClear => 0x2B
  | .clearTable => 0x2C

/-- The bytes of a request's fields (R170). Bytes an ACK's target does not use are sent as 0. -/
def Request.fields : Request → List Byte
  | .openSession => []
  | .closeSession => []
  | .status => []
  | .readLines => []
  | .create f =>
    [f.shape] ++ wordBytes f.lines ++ [f.timebase, f.trigKind, f.trigInput, f.pred.slot, f.pred.gen, f.gatePresent,
      f.gate.slot, f.gate.gen, f.renewal, f.renewalInput] ++ wordBytes f.wait ++ wordBytes f.hold ++ wordBytes f.rest ++
      wordBytes f.repeats ++ wordBytes f.minInterval ++ wordBytes f.blockLimit ++ [f.mask]
  | .arm h => [h.slot, h.gen]
  | .fire h => [h.slot, h.gen]
  | .renew h => [h.slot, h.gen]
  | .release h => [h.slot, h.gen]
  | .amend f =>
    [f.handle.slot, f.handle.gen, f.mode] ++ wordBytes f.fieldMask ++ wordBytes f.wait ++ wordBytes f.hold ++
      wordBytes f.rest ++ wordBytes f.repeats ++ wordBytes f.minInterval ++ wordBytes f.blockLimit ++
      [f.mask, f.retrigger, f.orphan]
  | .retire h => [h.slot, h.gen]
  | .query h => [h.slot, h.gen]
  | .listTable start => [start]
  | .nextAttention => []
  | .ackPermit h kinds => [1, h.slot, h.gen, kinds]
  | .ackLine line => [2, line, 0, 0]
  | .ackQuench => [3, 0, 0, 0]
  | .revoke h => [h.slot, h.gen]
  | .setTimebase tb kind arg divisor => [tb, kind, arg] ++ wordBytes divisor
  | .startTimebase tb => [tb]
  | .stopTimebase tb => [tb]
  | .setInput n depth divider => [n, depth, divider]
  | .setLine l pol check tol tb spol => [l, pol, check, tol, tb, spol]
  | .setGroup g members gap tb => [g] ++ wordBytes members ++ [gap, tb]
  | .lockLine l => [l]
  | .clearLine l => [l]
  | .setQuota p q => [p, q]
  | .quenchSet => []
  | .quenchClear => []
  | .clearTable => []

/-- The request frame that carries a request under a sequence number (R167, R170). -/
def encodeRequest (seq : Seq) (r : Request) : List Byte :=
  encodeFrame { seq := seq, code := r.code, fields := r.fields }

/-- A response status as its byte (R173). -/
def statusByte : Status → Byte
  | .ok => 0x00
  | .notReady => 0x01
  | .badFrame => 0x02
  | .badRequest => 0x03
  | .badField => 0x04
  | .noSession => 0x05
  | .notOwner => 0x06
  | .notPermitted => 0x07
  | .staleHandle => 0x08
  | .wrongState => 0x09
  | .tableFull => 0x0A
  | .quotaExceeded => 0x0B
  | .groupConflict => 0x0C
  | .lineLocked => 0x0D
  | .referenced => 0x0E
  | .inUse => 0x0F
  | .quenched => 0x10
  | .timebaseStopped => 0x11
  | .tooEarly => 0x12

/-- The control byte of a response: the sequence number with its validity bit (R166, R168). DESIGN CHOICE
(notes/assumptions/2.md): with the validity bit clear the manual states no sequence number, and bits 3 to 0 are free. -/
def controlByte (free : Seq) : Option Seq → Byte
  | none => free.setWidth 8
  | some q => q.setWidth 8 ||| 0x10#8

/-- The response frame as it is shifted out, attention count and CRC filled in (R157, R166, R168). -/
def responseFrame (free : Seq) (r : Response) (attention : Nat) : List Byte :=
  withCrc (BitVec.ofNat 8 (r.data.length + 7) :: controlByte free r.seq :: r.code :: statusByte r.status ::
    BitVec.ofNat 8 attention :: r.data)

end Sys2Proof
end

