-- ==== Sys2Proof/Machine/Flags.lean ====
section
/-! DEFINITION. What follows from the state without being held in it: notice sets, the groupings of permit states,
the quench condition (R112), the level of a line's pin (R85), the attention count and INT_N (R139, R166). -/

namespace Sys2Proof

/-! ### Groupings of permit states (00_scope.md; R21, R22, R47, R121) -/

/-- Running: WAITING, BLOCKED, ACTIVE or RESTING. -/
def PState.running : PState → Bool
  | .waiting => true
  | .blocked => true
  | .active => true
  | .resting => true
  | .idle => false
  | .arming => false
  | .armed => false
  | .ended => false

/-- In service: ARMING, ARMED or running. In these states the permit is subscribed to its trigger source (R47), ends
by RELEASE, REVOKE and a lock (R22), and depends on its timebase, lines and group (R126, R86, R89). -/
def PState.inService : PState → Bool
  | .arming => true
  | .armed => true
  | .waiting => true
  | .blocked => true
  | .active => true
  | .resting => true
  | .idle => false
  | .ended => false

/-- ARMING or ARMED: where an abnormal end of the predecessor reaches the permit (R63). -/
def PState.awaitingTrigger : PState → Bool
  | .arming => true
  | .armed => true
  | .waiting => false
  | .blocked => false
  | .active => false
  | .resting => false
  | .idle => false
  | .ended => false

/-- The states in which a permit takes a tick of its timebase (R121). -/
def PState.takesTicks : PState → Bool
  | .arming => true
  | .armed => false
  | .waiting => true
  | .blocked => true
  | .active => true
  | .resting => true
  | .idle => false
  | .ended => false

/-- The trigger, renewal or source edge takes a filtered edge of this direction (R48, R71, R119). -/
def Edge.takes : Edge → Bool → Bool
  | .rise, rising => rising
  | .fall, rising => !rising
  | .both, _ => true

/-- REFCLK edges between two samples (R129). -/
def Divider.edges : Divider → Nat
  | .by1 => 1
  | .by8 => 8
  | .by64 => 64
  | .by512 => 512

end Sys2Proof

namespace Sys2Proof.Machine

/-! ### Notice sets (R134, R135) -/

/-- The kind is in the set. -/
def NoticeSet.has (n : NoticeSet) : Notice → Bool
  | .triggered => n.triggered
  | .blocked => n.blocked
  | .granted => n.granted
  | .missed => n.missed
  | .ended => n.ended

/-- The set with the kind added. -/
def NoticeSet.add (n : NoticeSet) : Notice → NoticeSet
  | .triggered => { n with triggered := true }
  | .blocked => { n with blocked := true }
  | .granted => { n with granted := true }
  | .missed => { n with missed := true }
  | .ended => { n with ended := true }

/-- The set without the kinds of the other (R141). -/
def NoticeSet.minus (n m : NoticeSet) : NoticeSet :=
  { triggered := n.triggered && !m.triggered
    blocked := n.blocked && !m.blocked
    granted := n.granted && !m.granted
    missed := n.missed && !m.missed
    ended := n.ended && !m.ended }

/-- The set with no kind. -/
def NoticeSet.empty : NoticeSet := {}

/-- The set holds no kind. -/
def NoticeSet.isEmpty (n : NoticeSet) : Bool := n == NoticeSet.empty

/-! ### Membership and shape -/

/-- The permit names the line (00_scope.md). -/
def Permit.names (p : Permit) (l : LineId) : Bool := p.lines.getLsbD l.val

/-- The line is a member of the group. -/
def Group.has (g : Group) (l : LineId) : Bool := g.members.getLsbD l.val

/-- The line is LOCKED. -/
def Condition.isLocked : Condition → Bool
  | .normal => false
  | .locked _ => true

/-- The group is in GAP. -/
def GroupState.isGap : GroupState → Bool
  | .free => false
  | .held _ => false
  | .gap _ => true

/-- The shape is TRAIN. -/
def Shape.isTrain : Shape → Bool
  | .pulse => false
  | .train _ _ => true
  | .lease _ _ => false

/-- The shape is LEASE. -/
def Shape.isLease : Shape → Bool
  | .pulse => false
  | .train _ _ => false
  | .lease _ _ => true

/-- A lease's minimum renewal interval; 0 for the shapes for which it is absent. -/
def Shape.window : Shape → Nat
  | .pulse => 0
  | .train _ _ => 0
  | .lease _ m => m

/-- A renewal of the permit now would be inside the window (R66). -/
def Permit.insideWindow (p : Permit) : Bool := decide (0 < p.shape.window ∧ p.renewalAge < p.shape.window)

/-! ### Derived levels -/

/-- The quench condition: QUENCH_N low, or the soft latch set (R112). -/
def State.quenched (s : State) : Bool := s.quenchLow || s.latch

/-- The level of a line's pin, high as true (R85). -/
def Line.pin (l : Line) : Bool :=
  match l.polarity with
  | .activeHigh => l.asserted
  | .activeLow => !l.asserted

/-- The line makes comparisons: check ON and NORMAL (R103). -/
def Line.checking (x : Line) : Bool := x.senseOn && !x.condition.isLocked

/-- The level of Sn that the line's sense check expects (R103). -/
def Line.expectedSense (l : Line) : Bool :=
  match l.sensePolarity with
  | .same => l.pin
  | .inverted => !l.pin

/-- The attention count: the entries on the port's list (R166). -/
def PortUnit.attentionCount (u : PortUnit) : Nat := u.attention.length

/-- INT_N is driven low exactly while the attention list holds an entry (R139). -/
def PortUnit.intLow (u : PortUnit) : Bool := !u.attention.isEmpty

end Sys2Proof.Machine
end

