-- ==== Sys2Proof/Machine/Operands.lean ====
section
/-! DEFINITION. The operand forms: each field of a request read from its bytes by the encodings of R169, none where
the value is outside its range or its encoding (then the request's range check refuses BAD_FIELD), and each item of
a response as its byte. DEDUCED (notes/assumptions/4.md): bits that an encoding does not name are 0. -/

namespace Sys2Proof.Machine

/-- A number field as an index below n; none when it is n or above. -/
def indexOf (n : Nat) (b : Byte) : Option (Fin n) :=
  if h : b.toNat < n then some ⟨b.toNat, h⟩ else none

/-- A field of two values: 0 for the first, 1 for the second (R169, policies, polarities, modes, sense check). -/
def choiceOf {α : Type} (first second : α) (b : Byte) : Option α :=
  match b.toNat with
  | 0 => some first
  | 1 => some second
  | _ => none

/-- A value that lies in a range. -/
def inRange (lo hi n : Nat) : Option Nat := if lo ≤ n ∧ n ≤ hi then some n else none

/-- The handle, when its slot number is 0 to 47 (R3). -/
def handleOf (h : RawHandle) : Option Handle := (indexOf 48 h.slot).map fun i => { slot := i, gen := h.gen }

/-- An edge's two bits: 1 RISE, 2 FALL, 3 BOTH (R169). -/
def edgeOf (bits : Nat) : Option Edge :=
  match bits with
  | 1 => some .rise
  | 2 => some .fall
  | 3 => some .both
  | _ => none

/-- Input and edge: bits 2 to 0 input, bits 5 to 4 edge, the other bits 0 (R169). -/
def inputEdgeOf (b : Byte) : Option (InputId × Edge) :=
  if b.getLsbD 3 || b.getLsbD 6 || b.getLsbD 7 then none
  else do
    let n ← indexOf 8 (b &&& 7#8)
    let e ← edgeOf (b.toNat / 16)
    return (n, e)

/-- A permit's trigger from its kind and the parts that belong to it (R6, R12). -/
def triggerOf (kind input : Byte) (pred : RawHandle) : Option Trigger :=
  match kind.toNat with
  | 0 => some .soft
  | 1 => (inputEdgeOf input).map fun ne => .input ne.1 ne.2
  | 2 => (handleOf pred).map fun h => .chain (some h)
  | _ => none

/-- A permit's gate or its absence (R7, R12). -/
def gateOf (present : Byte) (gate : RawHandle) : Option (Option Handle) :=
  match present.toNat with
  | 0 => some none
  | 1 => (handleOf gate).map some
  | _ => none

/-- A lease's renewal source (R7, R12): 1 PORT, 2 INPUT. -/
def renewalOf (kind input : Byte) : Option RenewalSource :=
  match kind.toNat with
  | 1 => some .port
  | 2 => (inputEdgeOf input).map fun ne => .input ne.1 ne.2
  | _ => none

/-- A permit's shape with the fields that apply to it; fields of other shapes are not read (R8, R12). -/
def shapeOf (f : CreateFields) : Option Shape :=
  match f.shape.toNat with
  | 0 => some .pulse
  | 1 => (inRange 1 65535 f.rest.toNat).map fun rest => .train rest f.repeats.toNat
  | 2 => (renewalOf f.renewal f.renewalInput).map fun src => .lease src f.minInterval.toNat
  | _ => none

/-- Block limit: 0 absent, else the limit (R169). -/
def blockLimitOf (w : Word) : Option Nat := if w = 0 then none else some w.toNat

/-- The notice set that a byte encodes: bit 0 TRIGGERED to bit 4 ENDED (R169). -/
def noticesOf (b : Byte) : NoticeSet :=
  { triggered := b.getLsbD 0, blocked := b.getLsbD 1, granted := b.getLsbD 2, missed := b.getLsbD 3, ended := b.getLsbD 4 }

/-- A notice mask: any subset of TRIGGERED, BLOCKED, GRANTED and MISSED (R8, R12). -/
def maskOf (b : Byte) : Option NoticeSet := if b.toNat < 16 then some (noticesOf b) else none

/-- A set of notice kinds in an ACK: any subset of the five (R141). -/
def kindsOf (b : Byte) : Option NoticeSet := if b.toNat < 32 then some (noticesOf b) else none

/-- Divisor: 1 to 65535, or 0 for 65536 (R169). -/
def divisorOf (w : Word) : Nat := if w = 0 then 65536 else w.toNat

/-- A timebase source (R118, R122): for TICK, a timebase below this one. -/
def sourceOf (tb : TimebaseId) (kind arg : Byte) : Option TimebaseSource :=
  match kind.toNat with
  | 0 => some .refclk
  | 1 => do
    let k ← indexOf 4 arg
    if k < tb then some (.tick k) else none
  | 2 => (inputEdgeOf arg).map fun ne => .edge ne.1 ne.2
  | _ => none

/-- Divider code: 0 /1, 1 /8, 2 /64, 3 /512 (R170). -/
def dividerOf (b : Byte) : Option Divider :=
  match b.toNat with
  | 0 => some .by1
  | 1 => some .by8
  | 2 => some .by64
  | 3 => some .by512
  | _ => none

/-- The number of lines in a set. -/
def lineCount (ls : LineSet) : Nat := (allLines.filter fun l => ls.getLsbD l.val).length

/-- A group's member set: empty, or 2 to 4 lines (R89). -/
def membersOf (w : Word) : Option LineSet :=
  if lineCount w = 0 ∨ (2 ≤ lineCount w ∧ lineCount w ≤ 4) then some w else none

/-! ### Items of responses as bytes (R169) -/

/-- A count or number as one byte. -/
def byteOf (n : Nat) : Byte := BitVec.ofNat 8 n

/-- A count as two bytes, least significant first; a divisor of 65536 is sent as 0. -/
def countBytes (n : Nat) : List Byte := wordBytes (BitVec.ofNat 16 n)

/-- A truth value as 0 or 1. -/
def bitByte (b : Bool) : Byte := if b then 1 else 0

/-- A notice set as its byte. -/
def noticesByte (n : NoticeSet) : Byte :=
  byteOf ((if n.triggered then 1 else 0) + (if n.blocked then 2 else 0) + (if n.granted then 4 else 0) +
    (if n.missed then 8 else 0) + (if n.ended then 16 else 0))

/-- A handle as its two bytes. -/
def handleBytes (h : Handle) : List Byte := [byteOf h.slot.val, h.gen]

/-- An edge's two bits. -/
def edgeBits : Edge → Nat
  | .rise => 1
  | .fall => 2
  | .both => 3

/-- Input and edge as one byte. -/
def inputEdgeByte (n : InputId) (e : Edge) : Byte := byteOf (n.val + 16 * edgeBits e)

/-- A permit state as its byte; 0 is EMPTY. -/
def stateByte : PState → Byte
  | .idle => 1
  | .arming => 2
  | .armed => 3
  | .waiting => 4
  | .blocked => 5
  | .active => 6
  | .resting => 7
  | .ended => 8

/-- An end reason, or its absence, as its byte. -/
def reasonByte : Option EndReason → Byte
  | none => 0
  | some .completed => 1
  | some .released => 2
  | some .revoked => 3
  | some .expired => 4
  | some .renewEarly => 5
  | some .starved => 6
  | some .quenched => 7
  | some .lineLocked => 8
  | some .upstream => 9

/-- A lock cause as its byte. -/
def causeByte : LockCause → Byte
  | .sense => 0
  | .manual => 1

/-- A line's condition as its byte. -/
def conditionByte (c : Condition) : Byte := bitByte c.isLocked

/-- An owner as its two bytes; none is FF and a second byte for which R169 states no content. -/
def ownerBytes (free : Byte) : Option Owner → List Byte
  | some o => [byteOf o.port.val, o.session]
  | none => [0xFF, free]

/-- A divider as its code. -/
def dividerByte : Divider → Byte
  | .by1 => 0
  | .by8 => 1
  | .by64 => 2
  | .by512 => 3

/-- A timebase source as its two bytes; R169 states no content for the second byte of REFCLK. -/
def sourceBytes (free : Byte) : TimebaseSource → List Byte
  | .refclk => [0, free]
  | .tick k => [1, byteOf k.val]
  | .edge n e => [2, inputEdgeByte n e]

end Sys2Proof.Machine
end

