-- ==== Sys2Proof/Machine/Ops.lean ====
section
/-! DEFINITION. The operations that the commands share: reading and writing the blocks, open orders, notices and
attention lists (R135, R137), claims and levels (R84, R104), activation and groups (R29 to R31, R91 to R98), ends and
chains (R38, R61 to R65), triggers (R47 to R57), retirement and teardown (R2, R150, R151), locks (R107) and quench
(R112 to R116), and the delivery of ticks and edges (R121, R131). -/

namespace Sys2Proof.Machine

/-! ### The blocks -/

/-- A slot. -/
def State.slot (s : State) (i : SlotId) : Slot := s.slots[i]

/-- The permit in a slot; none when the slot is EMPTY. -/
def State.permit (s : State) (i : SlotId) : Option Permit := (s.slot i).permit

/-- A drive line. -/
def State.line (s : State) (l : LineId) : Line := s.lines[l]

/-- An exclusion group. -/
def State.group (s : State) (g : GroupId) : Group := s.groups[g]

/-- A timebase. -/
def State.timebase (s : State) (k : TimebaseId) : Timebase := s.timebases[k]

/-- A trigger input. -/
def State.input (s : State) (n : InputId) : Input := s.inputs[n]

/-- A port unit. -/
def State.port (s : State) (p : Port) : PortUnit := s.ports[p]

/-- Write a slot. -/
def State.setSlot (s : State) (i : SlotId) (x : Slot) : State := { s with slots := s.slots.set i x }

/-- Write the permit record of a slot, its generation unchanged. -/
def State.setPermit (s : State) (i : SlotId) (p : Permit) : State :=
  s.setSlot i { gen := (s.slot i).gen, permit := some p }

/-- Write a line. -/
def State.setLine (s : State) (l : LineId) (x : Line) : State := { s with lines := s.lines.set l x }

/-- Write a group. -/
def State.setGroup (s : State) (g : GroupId) (x : Group) : State := { s with groups := s.groups.set g x }

/-- Write a timebase. -/
def State.setTimebase (s : State) (k : TimebaseId) (x : Timebase) : State :=
  { s with timebases := s.timebases.set k x }

/-- Write an input. -/
def State.setInput (s : State) (n : InputId) (x : Input) : State := { s with inputs := s.inputs.set n x }

/-- Write a port unit. -/
def State.setPort (s : State) (p : Port) (x : PortUnit) : State := { s with ports := s.ports.set p x }

/-- Change every slot, each by its own number. -/
def State.mapSlots (s : State) (f : SlotId → Slot → Slot) : State :=
  { s with slots := Vector.ofFn fun i => f i (s.slot i) }

/-- Change every line, each by its own number. -/
def State.mapLines (s : State) (f : LineId → Line → Line) : State :=
  { s with lines := Vector.ofFn fun l => f l (s.line l) }

/-- Change every group, each by its own number. -/
def State.mapGroups (s : State) (f : GroupId → Group → Group) : State :=
  { s with groups := Vector.ofFn fun g => f g (s.group g) }

/-- The current handle of a slot (R3). -/
def State.handle (s : State) (i : SlotId) : Handle := { slot := i, gen := (s.slot i).gen }

/-- The permit that a handle names; none when the handle is stale (R3). -/
def State.resolve (s : State) (h : Handle) : Option Permit :=
  if (s.slot h.slot).gen = h.gen then s.permit h.slot else none

/-! ### Orders that the manual leaves open (R21, R61, R64, R107, R136) -/

/-- Insert an item by ascending key. -/
def insertByKey {α : Type} (key : α → Nat) (x : α) : List α → List α
  | [] => [x]
  | y :: ys => if key x ≤ key y then x :: y :: ys else y :: insertByKey key x ys

/-- A list in ascending order of a key. -/
def orderByKey {α : Type} (key : α → Nat) (xs : List α) : List α := xs.foldr (insertByKey key) []

/-- The item of least key in a list, with the others. -/
def takeLeast {α : Type} (key : α → Nat) : List α → Option (α × List α)
  | [] => none
  | x :: xs =>
    match takeLeast key xs with
    | none => some (x, [])
    | some (y, ys) => if key x ≤ key y then some (x, y :: ys) else some (y, x :: ys)

/-- One more open choice has been drawn. -/
def State.drawn (s : State) : State := { s with freeCount := s.freeCount + 1 }

/-- The slots in the open order of this draw. -/
def State.freeSlots (s : State) (xs : List SlotId) : List SlotId :=
  orderByKey (fun i => Config.freeKey s.freeCount i.val) xs

/-- The groups in the open order of this draw. -/
def State.freeGroups (s : State) (xs : List GroupId) : List GroupId :=
  orderByKey (fun g => Config.freeKey s.freeCount g.val) xs

/-! ### Attention lists and notices (R134 to R138) -/

/-- Append an entry at the tail of a port's attention list (R136). -/
def State.appendEntry (s : State) (p : Port) (e : Entry) : State :=
  s.setPort p { s.port p with attention := (s.port p).attention ++ [e] }

/-- Take an entry off a port's attention list; the others keep their order (R138). -/
def State.removeEntry (s : State) (p : Port) (e : Entry) : State :=
  s.setPort p { s.port p with attention := (s.port p).attention.filter (· ≠ e) }

/-- The kind is raised whatever the mask when it is ENDED, and otherwise when the mask holds it (R134). -/
def Permit.reports (p : Permit) (k : Notice) : Bool := k = .ended || p.mask.has k

/-- A permit raises a notice kind (R134, R135): the kind joins the pending set, and a permit whose set was empty
joins the tail of its owner's attention list. At a permit without owner the kind is discarded. -/
def State.raise (s : State) (i : SlotId) (k : Notice) : State :=
  match s.permit i with
  | none => s
  | some p =>
    match p.owner with
    | none => s
    | some o =>
      if p.reports k then
        let added := s.setPermit i { p with pending := p.pending.add k }
        if p.pending.isEmpty then added.appendEntry o.port (.permit (s.handle i)) else added
      else s

/-- The entry names this line. -/
def Entry.isLine (l : LineId) : Entry → Bool
  | .line l' _ => l' = l
  | .permit _ => false
  | .quench => false

/-- The entry is the quench entry. -/
def Entry.isQuench : Entry → Bool
  | .quench => true
  | .line _ _ => false
  | .permit _ => false

/-- A lock places the line's entry on P0's list while P0's session is OPEN; an entry already there keeps its place and
records the cause of this lock (R109, R137). -/
def State.placeLineEntry (s : State) (l : LineId) (c : LockCause) : State :=
  let u := s.port 0
  if u.isOpen then
    if u.attention.any (Entry.isLine l) then
      s.setPort 0 { u with attention := u.attention.map fun e => if e.isLine l then .line l c else e }
    else s.appendEntry 0 (.line l c)
  else s

/-- An onset or an end places the quench entry on P0's list while P0's session is OPEN, if it is not there (R137). -/
def State.placeQuenchEntry (s : State) : State :=
  let u := s.port 0
  if u.isOpen && !u.attention.any Entry.isQuench then s.appendEntry 0 .quench else s

/-! ### Claims and levels (R84, R104) -/

/-- A permit that enters ACTIVE adds one claim to each line it names. -/
def State.addClaims (s : State) (ls : LineSet) : State :=
  s.mapLines fun l x => if ls.getLsbD l.val then { x with claims := x.claims + 1 } else x

/-- A permit that leaves ACTIVE removes one claim from each line it names. -/
def State.removeClaims (s : State) (ls : LineSet) : State :=
  s.mapLines fun l x => if ls.getLsbD l.val then { x with claims := x.claims - 1 } else x

/-- A line takes its level from its claim count as the happening leaves it; a change of level clears the mismatch
count of a NORMAL line (R84, R104). -/
def Line.settle (x : Line) : Line :=
  let level := decide (0 < x.claims)
  if x.asserted = level then x
  else { x with asserted := level, mismatch := if x.condition.isLocked then x.mismatch else 0 }

/-- The end of a happening: every line takes its level (R84). -/
def State.settleLevels (s : State) : State := s.mapLines fun _ x => x.settle

/-! ### Groups and activation (R29 to R31, R91 to R98) -/

/-- The group of which a line is a member (R88). -/
def State.groupOf (s : State) (l : LineId) : Option GroupId := allGroups.find? fun g => (s.group g).has l

/-- How many lines of a set are grouped (R13). -/
def State.groupedCount (s : State) (ls : LineSet) : Nat :=
  (allLines.filter fun l => ls.getLsbD l.val && (s.groupOf l).isSome).length

/-- The grouped line that a set of lines holds, with its group (R29). -/
def State.groupedLine (s : State) (ls : LineSet) : Option (GroupId × LineId) :=
  allLines.findSome? fun l => if ls.getLsbD l.val then (s.groupOf l).map fun g => (g, l) else none

/-- The member line of a group that a permit names. -/
def State.memberLine (s : State) (g : GroupId) (p : Permit) : Option LineId :=
  allLines.find? fun l => p.names l && (s.group g).has l

/-- The permit as entry to ACTIVE writes it (R30). -/
def Permit.enteringActive (p : Permit) (fromBlocked : Bool) : Permit :=
  { p with
    state := .active
    remaining := p.hold
    cycles := if p.shape.isTrain then min 65535 (p.cycles + 1) else p.cycles
    renewalAge := if p.shape.isLease then 0 else p.renewalAge
    blockedAge := if fromBlocked then 0 else p.blockedAge }

/-- Entry to ACTIVE: hold loaded, one claim on each named line, and GRANTED when it comes from BLOCKED (R30). -/
def State.enterActive (s : State) (i : SlotId) (fromBlocked : Bool) : State :=
  match s.permit i with
  | none => s
  | some p =>
    let entered := (s.setPermit i (p.enteringActive fromBlocked)).addClaims p.lines
    if fromBlocked then entered.raise i .granted else entered

/-- Entry to BLOCKED on a group: at the tail of its queue, blocked age 0, BLOCKED raised (R31). -/
def State.enterBlocked (s : State) (i : SlotId) (g : GroupId) : State :=
  match s.permit i with
  | none => s
  | some p =>
    let gr := s.group g
    ((s.setGroup g { gr with queue := gr.queue ++ [s.handle i] }).setPermit i
      { p with state := .blocked, remaining := 0, blockedAge := 0 }).raise i .blocked

/-- The answer of a group to an activation request for its member line (R92): true to enter ACTIVE at once. -/
def Group.answersNow (gr : Group) (l : LineId) : Bool :=
  gr.queue.isEmpty &&
    match gr.state with
    | .free => true
    | .held holder => holder = l
    | .gap _ => false

/-- An activation request (R29, R92). -/
def State.activate (s : State) (i : SlotId) : State :=
  match s.permit i with
  | none => s
  | some p =>
    match s.groupedLine p.lines with
    | none => s.enterActive i false
    | some (g, l) =>
      let gr := s.group g
      if gr.answersNow l then (s.setGroup g { gr with state := .held l }).enterActive i false
      else s.enterBlocked i g

/-- The BLOCKED permit that a queue entry names (R37: a grant reaches a permit in BLOCKED and in no other state). -/
def State.blockedPermit (s : State) (h : Handle) : Option Permit :=
  match s.resolve h with
  | none => none
  | some p => if p.state = .blocked then some p else none

/-- Second step of a grant (R96): while the head of the queue names the line just granted, it enters ACTIVE too. -/
def State.grantFollowers (g : GroupId) (l : LineId) : List Handle → State → State
  | [], s => s
  | h :: rest, s =>
    match s.blockedPermit h with
    | none => s
    | some p =>
      if s.memberLine g p = some l then
        grantFollowers g l rest ((s.setGroup g { s.group g with queue := rest }).enterActive h.slot true)
      else s

/-- A grant (R96), made when a group becomes FREE: the head of its queue takes the group, followers that name the
same line share it, and with an empty queue the group stays FREE. -/
def State.grant (s : State) (g : GroupId) : State :=
  let gr := s.group g
  match gr.queue with
  | [] => s
  | h :: rest =>
    match s.blockedPermit h with
    | none => s
    | some p =>
      match s.memberLine g p with
      | none => s
      | some l =>
        State.grantFollowers g l rest ((s.setGroup g { gr with state := .held l, queue := rest }).enterActive h.slot true)

/-- The group is HELD by a line that no permit claims any more (R94). -/
def State.holderReleased (s : State) (g : GroupId) : Bool :=
  match (s.group g).state with
  | .free => false
  | .held l => (s.line l).claims = 0
  | .gap _ => false

/-- A group takes the release of its holder line: GAP, or with a gap of 0 FREE and a grant (R94). -/
def State.releaseGroup (s : State) (g : GroupId) : State :=
  let gr := s.group g
  if gr.gap = 0 then (s.setGroup g { gr with state := .free }).grant g
  else s.setGroup g { gr with state := .gap gr.gap }

/-- Every group whose holder line is no longer claimed takes its release, in no fixed order (R94, R99). -/
def State.releaseGroups (s : State) : State :=
  (s.freeGroups (allGroups.filter s.holderReleased)).foldl
    (fun s g => if s.holderReleased g then s.releaseGroup g else s) s.drawn

/-- A permit leaves every wait queue; the others keep their order (R98). -/
def State.leaveQueues (s : State) (h : Handle) : State :=
  s.mapGroups fun _ gr => { gr with queue := gr.queue.filter (· ≠ h) }

/-- A permit leaves its state's hold on the lines and groups: claims from ACTIVE, queue place from BLOCKED (R38, R150). -/
def State.detach (s : State) (i : SlotId) : State :=
  match s.permit i with
  | none => s
  | some p =>
    match p.state with
    | .active => s.removeClaims p.lines
    | .blocked => s.leaveQueues (s.handle i)
    | .idle => s
    | .arming => s
    | .armed => s
    | .waiting => s
    | .resting => s
    | .ended => s

/-! ### Retirement (R2) -/

/-- An orphan's references to a handle become absent (R2 step 3, R7). -/
def Permit.dropReference (h : Handle) (p : Permit) : Permit :=
  match p.owner with
  | some _ => p
  | none =>
    { p with
      trigger := if p.trigger = .chain (some h) then .chain none else p.trigger
      gate := if p.gate = some h then none else p.gate }

/-- The tick or edge is on its way to the permit that a handle names. -/
def Due.isFor (h : Handle) : Due → Bool
  | .permitTick h' => h' = h
  | .trigger h' => h' = h
  | .renewal h' => h' = h
  | .groupTick _ _ => false
  | .lineTick _ _ => false
  | .sourceTick _ _ => false
  | .sourceEdge _ _ _ => false

/-- The happenings due of which a test is true pass their users by. -/
def State.withdraw (s : State) (test : Due → Bool) : State := { s with due := s.due.filter fun d => !test d }

/-- A permit that is retired leaves its owner (R2 steps 1 and 2): its entry leaves the owner's attention list and the owned
count falls by one. An orphan touches no port. -/
def State.leaveOwner (s : State) (h : Handle) (p : Permit) : State :=
  match p.owner with
  | none => s
  | some o =>
    s.setPort o.port
      { s.port o.port with
        attention := (s.port o.port).attention.filter (· ≠ .permit h), owned := (s.port o.port).owned - 1 }

/-- Retire a slot (R2): its permit leaves its owner, orphans lose their references to it, the slot is EMPTY and its generation
advances. Ticks and edges on their way to the permit reach nobody. -/
def State.retire (s : State) (i : SlotId) : State :=
  match s.permit i with
  | none => s
  | some p =>
    let h := s.handle i
    (((s.leaveOwner h p).mapSlots fun _ x => { x with permit := x.permit.map (Permit.dropReference h) }).setSlot i
      { gen := h.gen + 1, permit := none }).withdraw (Due.isFor h)

/-- An orphan is retired within the happening of its end (R38, R153). -/
def State.retireIfOrphan (s : State) (i : SlotId) : State :=
  match s.permit i with
  | none => s
  | some p =>
    match p.owner with
    | some _ => s
    | none => s.retire i

/-! ### Ends (R38) and the UPSTREAM cascade (R63, R64) -/

/-- The writes of an entry to ENDED, less the notice and the chain effect (R38). The permit's subscription ends, so the edges
on their way to it pass it by (R47), and the ticks as well (DESIGN CHOICE, notes/assumptions/9.md). -/
def State.enterEnded (s : State) (i : SlotId) (r : EndReason) : State :=
  match s.permit i with
  | none => s
  | some p =>
    ((s.detach i).setPermit i { p with state := .ended, remaining := 0, endReason := some r }).withdraw
      (Due.isFor (s.handle i))

/-- The permits whose CHAIN trigger names a handle (R61). -/
def State.successors (s : State) (h : Handle) : List SlotId :=
  allSlots.filter fun i =>
    match s.permit i with
    | none => false
    | some p => p.trigger = .chain (some h)

/-- The successors that an abnormal end reaches: those in ARMING or ARMED (R63). -/
def State.waitingSuccessors (s : State) (h : Handle) : List SlotId :=
  (s.successors h).filter fun i =>
    match s.permit i with
    | none => false
    | some p => p.state.awaitingTrigger

/-- Ends of one happening, taken one after the other (R107, R114, R63, R64): the permit of least key is ended with its
reason, raises ENDED, puts its ARMING and ARMED successors among those still to end UPSTREAM, and is retired if it is
an orphan. The key makes the order open; fuel bounds the number of ends by the number of slots. -/
def State.endAll (key : SlotId → Nat) : Nat → List (SlotId × EndReason) → State → State
  | 0, _, s => s
  | fuel + 1, work, s =>
    match takeLeast (fun w => key w.1) work with
    | none => s
    | some ((i, r), rest) =>
      let h := s.handle i
      let ended := (s.enterEnded i r).raise i .ended
      let more := (ended.waitingSuccessors h).filter fun j => !rest.any fun w => w.1 = j
      endAll key fuel (rest ++ more.map fun j => (j, .upstream)) (ended.retireIfOrphan i)

/-- Several permits end within one happening, in an open order; no group takes a release yet (R99). -/
def State.endMany (s : State) (work : List (SlotId × EndReason)) : State :=
  State.endAll (fun i => Config.freeKey s.freeCount i.val) 48 work s.drawn

/-- One permit ends abnormally (R38, R63). Where the happening ends this permit alone, its group takes the release at the
fall of the claims, ENDED is raised, and an orphan is retired. Where it ends successors UPSTREAM too, the groups take the
release once every end of the happening has been taken (R94). -/
def State.endAbnormal (s : State) (i : SlotId) (r : EndReason) : State :=
  if (s.waitingSuccessors (s.handle i)).isEmpty then
    ((s.enterEnded i r).releaseGroups.raise i .ended).retireIfOrphan i
  else (s.endMany [(i, r)]).releaseGroups

/-! ### Triggers (R47 to R57) -/

/-- What a trigger did at a permit (R47, R49). -/
inductive TriggerOutcome where
  | accepted
  | restarted
  | missed
  | passedBy
  deriving DecidableEq, Repr

/-- The permit's gate is absent, or the permit it names is ACTIVE (R50, R59). -/
def State.gateOpen (s : State) (p : Permit) : Bool :=
  match p.gate with
  | none => true
  | some h =>
    match s.resolve h with
    | none => false
    | some q => q.state = .active

/-- The counters of a run set to 0 (R51, R54). -/
def Permit.clearCounters (p : Permit) : Permit := { p with cycles := 0, renewalAge := 0, blockedAge := 0 }

/-- A run begins (R51 step 2, R54 step 3): the wait, or with a wait count of 0 an activation request. -/
def State.beginRun (s : State) (i : SlotId) : State :=
  match s.permit i with
  | none => s
  | some p =>
    if p.wait = 0 then s.activate i else s.setPermit i { p with state := .waiting, remaining := p.wait }

/-- Acceptance of a trigger in ARMED (R51). -/
def State.accept (s : State) (i : SlotId) (p : Permit) : State :=
  ((s.setPermit i p.clearCounters).beginRun i).raise i .triggered

/-- The permit that a RESTART with a wait count of 0 leaves ACTIVE (R57). -/
def Permit.restartedInPlace (p : Permit) : Permit :=
  { p with remaining := p.hold, cycles := if p.shape.isTrain then 1 else 0, renewalAge := 0, blockedAge := 0 }

/-- A RESTART of a running permit (R54 to R57). -/
def State.restart (s : State) (i : SlotId) (p : Permit) : State :=
  match p.state with
  | .active =>
    if p.wait = 0 then (s.setPermit i p.restartedInPlace).raise i .triggered
    else
      (((s.removeClaims p.lines).setPermit i { p.clearCounters with state := .waiting, remaining := p.wait }).releaseGroups).raise
        i .triggered
  | .blocked => (((s.leaveQueues (s.handle i)).setPermit i p.clearCounters).beginRun i).raise i .triggered
  | .waiting => ((s.setPermit i p.clearCounters).beginRun i).raise i .triggered
  | .resting => ((s.setPermit i p.clearCounters).beginRun i).raise i .triggered
  | .idle => s
  | .arming => s
  | .armed => s
  | .ended => s

/-- A trigger reaches a permit (R47): the outcome, and the state it leaves. -/
def State.takeTrigger (s : State) (i : SlotId) : TriggerOutcome × State :=
  match s.permit i with
  | none => (.passedBy, s)
  | some p =>
    match p.state with
    | .idle => (.passedBy, s)
    | .ended => (.passedBy, s)
    | .arming => (.missed, s.raise i .missed)
    | .armed =>
      if s.gateOpen p && !s.quenched then (.accepted, s.accept i p) else (.missed, s.raise i .missed)
    | .waiting | .blocked | .active | .resting =>
      if p.retrigger = .restart && s.gateOpen p then (.restarted, s.restart i p) else (.missed, s.raise i .missed)

/-- One permit ends normally (R38, R61, R62): claims and release first, then ENDED, then each successor takes its
trigger, in an open order, and an orphan is retired last (R65). -/
def State.endNormal (s : State) (i : SlotId) (r : EndReason) : State :=
  let h := s.handle i
  let ended := (s.enterEnded i r).releaseGroups.raise i .ended
  ((ended.freeSlots (ended.successors h)).foldl (fun s j => (s.takeTrigger j).2) ended.drawn).retireIfOrphan i

/-! ### Teardown (R150, R151) and CLEAR_TABLE (R154) -/

/-- A permit of the table is owned by the session now on a port (R4). -/
def State.ownedBy (s : State) (p : Port) (q : Permit) : Bool :=
  q.owner = some { port := p, session := (s.port p).session }

/-- The slots that hold a permit of which a test is true, ascending. -/
def State.slotsWith (s : State) (test : Permit → Bool) : List SlotId :=
  allSlots.filter fun i =>
    match s.permit i with
    | none => false
    | some p => test p

/-- A permit that teardown makes an orphan: running, with orphan policy RUN_OUT (R150). -/
def Permit.outlivesSession (p : Permit) : Bool := p.state.running && p.orphan = .runOut

/-- Teardown makes a permit an orphan (R150): no owner, no pending notice. -/
def Permit.orphaned (p : Permit) : Permit := { p with owner := none, pending := {} }

/-- Stop a permit without an end, and retire it (R150, R154). -/
def State.stopAndRetire (s : State) (i : SlotId) : State := (s.detach i).retire i

/-- Teardown of a port's session (R150, R151): orphans are made first, every other permit of the session is stopped and
retired, the list is emptied and the session closed, and then the groups take their releases (R99). -/
def State.teardown (s : State) (p : Port) : State :=
  let orphans := s.slotsWith fun q => s.ownedBy p q && q.outlivesSession
  let others := s.slotsWith fun q => s.ownedBy p q && !q.outlivesSession
  let made := s.mapSlots fun i x => if i ∈ orphans then { x with permit := x.permit.map Permit.orphaned } else x
  let retired := others.foldl State.stopAndRetire made
  (retired.setPort p { retired.port p with isOpen := false, owned := 0, attention := [] }).releaseGroups

/-- How many permits a teardown of the port's session would retire and orphan (R147). -/
def State.teardownCounts (s : State) (p : Port) : Nat × Nat :=
  ((s.slotsWith fun q => s.ownedBy p q && !q.outlivesSession).length,
    (s.slotsWith fun q => s.ownedBy p q && q.outlivesSession).length)

/-- Every occupied slot is stopped and retired (R154), and the groups take their releases (R155). -/
def State.clearAll (s : State) : State :=
  ((s.slotsWith fun _ => true).foldl State.stopAndRetire s).releaseGroups

/-! ### Locks (R107 to R109) and quench (R112 to R116) -/

/-- The permits that name a line and are in service (R107, R86). -/
def State.inServiceOn (s : State) (l : LineId) : List SlotId := s.slotsWith fun p => p.state.inService && p.names l

/-- A lock of a line (R107 to R109): the line is LOCKED, P0's entry is placed, every permit in service that names the
line ends LINE_LOCKED with its cascade, and then the groups take their releases (R99). -/
def State.lockBy (s : State) (l : LineId) (c : LockCause) : State :=
  let locked := (s.setLine l { s.line l with condition := .locked c }).placeLineEntry l c
  (locked.endMany ((locked.inServiceOn l).map fun i => (i, .lineLocked))).releaseGroups

/-- Quench onset (R114): P0's entry is placed, every running permit ends QUENCHED with its cascade, and then the groups
take their releases (R99). -/
def State.quenchOnset (s : State) : State :=
  let placed := s.placeQuenchEntry
  (placed.endMany ((placed.slotsWith fun p => p.state.running).map fun i => (i, .quenched))).releaseGroups

/-- The quench unit works out the condition anew after a change of the pin level or the latch (R112): an onset, an end
(R116), or neither. -/
def State.setQuench (s : State) (low latch : Bool) : State :=
  let written := { s with quenchLow := low, latch := latch }
  if s.quenched then
    if written.quenched then written else written.placeQuenchEntry
  else
    if written.quenched then written.quenchOnset else written

/-! ### Ticks and edges on their way (R121, R131) -/

/-- The users to which a tick of a timebase is delivered, each as a happening of its own (R121): every permit in service on
it, every group and every line with its check ON that counts on it, and every RUNNING timebase that it is the source of. What
the user does with the tick is judged when it takes it. DESIGN CHOICE (notes/assumptions/9.md): a permit out of service, a
line with its check OFF and a STOPPED timebase, at which the tick would change nothing, are given none. -/
def State.tickUsers (s : State) (k : TimebaseId) : List Due :=
  (allSlots.filterMap fun i =>
    match s.permit i with
    | none => none
    | some p => if p.timebase = k ∧ p.state.inService then some (.permitTick (s.handle i)) else none) ++
  (allGroups.filterMap fun g => if (s.group g).timebase = k then some (.groupTick k g) else none) ++
  (allLines.filterMap fun l =>
    if (s.line l).checkTimebase = k ∧ (s.line l).senseOn then some (.lineTick k l) else none) ++
  (allTimebases.filterMap fun tb =>
    if (s.timebase tb).source = .tick k ∧ (s.timebase tb).running then some (.sourceTick k tb) else none)

/-- The receivers to which a filtered edge of an input is delivered, each as a happening of its own (R131). DESIGN CHOICE
(notes/assumptions/9.md): a receiver of the other polarity, a permit out of service and a STOPPED timebase, which would take
the edge without effect, are given none. -/
def State.edgeReceivers (s : State) (n : InputId) (rising : Bool) : List Due :=
  (allSlots.filterMap fun i =>
    match s.permit i with
    | none => none
    | some p =>
      match p.trigger with
      | .input m e => if m = n ∧ e.takes rising ∧ p.state.inService then some (.trigger (s.handle i)) else none
      | .soft => none
      | .chain _ => none) ++
  (allSlots.filterMap fun i =>
    match s.permit i with
    | none => none
    | some p =>
      match p.shape with
      | .lease (.input m e) _ => if m = n ∧ e.takes rising ∧ p.state.inService then some (.renewal (s.handle i)) else none
      | .lease .port _ => none
      | .pulse => none
      | .train _ _ => none) ++
  (allTimebases.filterMap fun tb =>
    match (s.timebase tb).source with
    | .edge m e => if m = n ∧ e.takes rising ∧ (s.timebase tb).running then some (.sourceEdge n rising tb) else none
    | .refclk => none
    | .tick _ => none)

/-- The user of a happening due is in a state to take it with effect (R121, R131, R71). -/
def State.hasUse (s : State) : Due → Bool
  | .permitTick h => (s.resolve h).any fun p => p.state.takesTicks
  | .groupTick _ g => (s.group g).state.isGap
  | .lineTick _ l => (s.line l).checking
  | .sourceTick _ tb => (s.timebase tb).running
  | .sourceEdge _ _ tb => (s.timebase tb).running
  | .trigger h => (s.resolve h).any fun p => p.state.inService
  | .renewal h => (s.resolve h).any fun p => p.state = .active && p.owner.isSome

/-- Happenings are delivered to their users. DESIGN CHOICE (notes/assumptions/9.md): an earlier one of the same kind that is
still due at a user without a use for it has passed that user by. -/
def State.deliver (s : State) (happenings : List Due) : State :=
  { s with due := (s.due.filter fun d => s.hasUse d || !happenings.contains d) ++ happenings }

/-- Take the first happening due that passes a test; none when there is none. -/
def State.takeDue (s : State) (test : Due → Bool) : Option State :=
  if s.due.any test then some { s with due := s.due.eraseP test } else none

/-- A happening at a part whose RESET_N is high; while RESET_N is low nothing but reset happens (R156, R83). -/
def State.outOfReset (s : State) (f : State → State) : State := if s.resetLow then s else f s

end Sys2Proof.Machine
end

