-- ==== Sys2Proof/Machine/Responses.lean ====
section
/-! DEFINITION. The data of the responses as R169 to R172 lay them out. The argument c is the draw whose free
bytes stand where the layout states no content (Config.freeByte). -/

namespace Sys2Proof.Machine

/-- The timebase report: source, divisor, pending divisor present, pending divisor, state, running count (R170). -/
def Timebase.report (c : Nat) (x : Timebase) : List Byte :=
  sourceBytes (Config.freeByte c 0) x.source ++ countBytes x.divisor ++
    (match x.pendingDivisor with
      | some d => 1 :: countBytes d
      | none => [0, Config.freeByte c 1, Config.freeByte c 2]) ++
    [bitByte x.running] ++ countBytes x.count

/-- The input data of a SET_INPUT response: depth, divider, filtered level, agreement count (R170). -/
def Input.report (x : Input) : List Byte :=
  [byteOf x.depth, dividerByte x.divider, bitByte x.level, byteOf x.agreement]

/-- Trigger kind, trigger input and edge, predecessor handle (R171 bytes 8 to 11). -/
def Trigger.report : Trigger → List Byte
  | .soft => [0, 0, 0, 0]
  | .input n e => [1, inputEdgeByte n e, 0, 0]
  | .chain (some h) => [2, 0] ++ handleBytes h
  | .chain none => [2, 0, 0, 0]

/-- Gate present and gate handle (R171 bytes 12 to 14). -/
def gateReport : Option Handle → List Byte
  | none => [0, 0, 0]
  | some h => 1 :: handleBytes h

/-- Shape as its byte (R169). -/
def Shape.byte : Shape → Byte
  | .pulse => 0
  | .train _ _ => 1
  | .lease _ _ => 2

/-- Renewal source, renewal input and edge, and the presence bits (R171 bytes 15 to 17). -/
def Shape.sources : Shape → List Byte
  | .pulse => [0, 0, 0]
  | .train _ _ => [0, 0, 3]
  | .lease .port _ => [1, 0, 4]
  | .lease (.input n e) _ => [2, inputEdgeByte n e, 4]

/-- Rest, repeat and minimum renewal interval, 0 where absent (R171 bytes 22 to 27). -/
def Shape.counts : Shape → List Byte
  | .pulse => countBytes 0 ++ countBytes 0 ++ countBytes 0
  | .train rest repeats => countBytes rest ++ countBytes repeats ++ countBytes 0
  | .lease _ m => countBytes 0 ++ countBytes 0 ++ countBytes m

/-- Remaining as QUERY carries it: 0 outside WAITING, ACTIVE and RESTING (R17, R171). -/
def Permit.shownRemaining (p : Permit) : Nat :=
  match p.state with
  | .waiting => p.remaining
  | .active => p.remaining
  | .resting => p.remaining
  | .idle => 0
  | .arming => 0
  | .armed => 0
  | .blocked => 0
  | .ended => 0

/-- A policy as its byte. -/
def RetriggerPolicy.byte : RetriggerPolicy → Byte
  | .ignore => 0
  | .restart => 1

/-- An orphan policy as its byte. -/
def OrphanPolicy.byte : OrphanPolicy → Byte
  | .endRun => 0
  | .runOut => 1

/-- The permit record as QUERY returns it (R171): 44 bytes. -/
def Permit.report (c : Nat) (h : Handle) (p : Permit) : List Byte :=
  handleBytes h ++ ownerBytes (Config.freeByte c 0) p.owner ++ [p.shape.byte] ++ wordBytes p.lines ++
    [byteOf p.timebase.val] ++ p.trigger.report ++ gateReport p.gate ++ p.shape.sources ++ countBytes p.wait ++
    countBytes p.hold ++ p.shape.counts ++ countBytes (p.blockLimit.getD 0) ++
    [noticesByte p.mask, RetriggerPolicy.byte p.retrigger, OrphanPolicy.byte p.orphan, stateByte p.state] ++
    countBytes p.shownRemaining ++ countBytes p.cycles ++ countBytes p.renewalAge ++ countBytes p.blockedAge ++
    [reasonByte p.endReason, noticesByte p.pending]

/-- A LIST entry: handle, state, owner (R18, R170). -/
def State.listEntry (s : State) (c : Nat) (i : SlotId) : List Byte :=
  match s.permit i with
  | none => []
  | some p => handleBytes (s.handle i) ++ [stateByte p.state] ++ ownerBytes (Config.freeByte c i.val) p.owner

/-- A line's three bytes in READ_LINES (R172). -/
def Line.report (x : Line) : List Byte :=
  [byteOf ((if x.asserted then 1 else 0) + (if x.condition.isLocked then 2 else 0) +
      (if x.condition = .locked .manual then 4 else 0)), byteOf x.claims, byteOf x.mismatch]

/-- A group's five bytes in READ_LINES (R172): member set, state with holder line, remaining gap, queue length. -/
def Group.report (c : Nat) (g : GroupId) (x : Group) : List Byte :=
  wordBytes x.members ++
    (match x.state with
      | .free => [byteOf (16 * ((Config.freeByte c (2 * g.val)).toNat % 16)), Config.freeByte c (2 * g.val + 1)]
      | .held l => [byteOf (1 + 16 * l.val), Config.freeByte c (2 * g.val + 1)]
      | .gap r => [byteOf (2 + 16 * ((Config.freeByte c (2 * g.val)).toNat % 16)), byteOf r]) ++
    [byteOf x.queue.length]

/-- The filtered levels, bit n for Tn (R172 byte 88). -/
def State.levelsByte (s : State) : Byte :=
  byteOf ((allInputs.map fun n => if (s.input n).level then 2 ^ n.val else 0).sum)

/-- The data of READ_LINES (R172): 90 bytes. -/
def State.linesReport (s : State) (c : Nat) : List Byte :=
  allLines.flatMap (fun l => (s.line l).report) ++ allGroups.flatMap (fun g => (s.group g).report c g) ++
    [s.levelsByte, byteOf ((if s.quenched then 1 else 0) + (if s.latch then 2 else 0))]

/-- The three quotas (R149). -/
def State.quotas (s : State) : List Byte :=
  [byteOf (s.port 0).quota, byteOf (s.port 1).quota, byteOf (s.port 2).quota]

/-- The data of NEXT_ATTENTION: the entry kind, then 5 bytes (R140, R170). -/
def State.attentionReport (s : State) (c : Nat) : Option Entry → List Byte
  | none => 0 :: (List.range 5).map (Config.freeByte c)
  | some (.permit h) =>
    match s.resolve h with
    | none => 1 :: handleBytes h ++ (List.range 3).map (Config.freeByte c)
    | some p =>
      1 :: handleBytes h ++
        [stateByte p.state, noticesByte p.pending, reasonByte (if p.state = .ended then p.endReason else none)]
  | some (.line l cause) =>
    [2, byteOf l.val, causeByte cause, conditionByte (s.line l).condition] ++ (List.range 2).map (Config.freeByte c)
  | some .quench => [3, bitByte s.quenched] ++ (List.range 4).map (Config.freeByte c)

end Sys2Proof.Machine
end

