-- ==== Sys2Proof/Machine/Engine.lean ====
section
/-! DEFINITION. The request engine (R163, R164): whose turn it is, the execution of one pending request as one
happening, the checks that requests share (R3, R144), and UNKNOWN_REQUEST. -/

namespace Sys2Proof.Machine

/-- What the execution of a request leaves: the state, the status, and the response data (R163). -/
structure Reply where
  state : State
  status : Status
  data : List Byte

/-- A refused request: nothing written, no data (R164). -/
def refuse (s : State) (st : Status) : Reply := { state := s, status := st, data := [] }

/-- A request taken. -/
def answer (s : State) (data : List Byte) : Reply := { state := s, status := .ok, data := data }

/-- The status of the first check that fails (R164). -/
def firstFailure : List (Bool × Status) → Option Status
  | [] => none
  | (passes, st) :: rest => if passes then firstFailure rest else some st

/-- Make the checks in order, and go on when all pass. -/
def State.checked (s : State) (checks : List (Bool × Status)) (go : Reply) : Reply :=
  match firstFailure checks with
  | some st => refuse s st
  | none => go

/-- The request that waits in a holder (R161). -/
def Holder.request : Holder → Option Frame
  | .vacant => none
  | .pending f => some f
  | .done => none

/-- The ports in the engine's turn, beginning with the port after the last one served (R163). -/
def turn (last : Port) : List Port := [last + 1, last + 2, last]

/-- The port whose request the engine executes next, with the request (R163). DESIGN CHOICE (notes/assumptions/20.md): the
engine makes its choice at the execution, so a port that is PENDING by then is in the turn. -/
def State.nextRequest (s : State) : Option (Port × Frame) :=
  (turn s.lastServed).findSome? fun p => (s.port p).holder.request.map fun f => (p, f)

/-- The end of an execution: lines take their levels, the response is stored, the holder is DONE, and the port is the
last served (R84, R163). -/
def State.finish (p : Port) (f : Frame) (r : Reply) : State :=
  let s := r.state.settleLevels.drawn
  { s.setPort p
      { s.port p with
        stored := { seq := some f.seq, code := f.code, status := r.status, data := r.data }, holder := .done } with
    lastServed := p }

/-- The engine executes the request whose turn it is, when that request is one that run executes; otherwise the
happening that the command names cannot occur and nothing changes (notes/assumptions/5.md). While RESET_N is low the
engine executes no request (R156). -/
def State.execute (s : State) (run : Port → Request → Option Reply) : State :=
  s.outOfReset fun s =>
    match s.nextRequest with
    | none => s
    | some (p, f) =>
      match decodeRequest f.code f.fields with
      | .error _ => s
      | .ok r =>
        match run p r with
        | none => s
        | some reply => State.finish p f reply

/-- UNKNOWN_REQUEST (R164): the engine executes a request that its decoding refuses, and stores the status of the
decoding check that failed, with no data. DEDUCED (notes/assumptions/6.md): an ACK of no known target kind, which
decoding refuses BAD_FIELD, is executed here too. -/
def execUnknownRequest (s : State) : Host.Outcome State Fault Refusal :=
  .next (s.outOfReset fun s =>
    match s.nextRequest with
    | none => s
    | some (p, f) =>
      match decodeRequest f.code f.fields with
      | .error st => State.finish p f (refuse s st)
      | .ok _ => s)

/-- The role and session checks of a supervisor request (R144). -/
def State.supervisorChecks (s : State) (p : Port) : List (Bool × Status) :=
  [(p = 0, .notPermitted), ((s.port p).isOpen, .noSession)]

/-- The handle checks of R3: the slot and the permit that the request acts on, or the status of the first check that
fails. For REVOKE the role is checked and the owner is not. -/
def State.checkHandle (s : State) (p : Port) (revoke : Bool) (h : RawHandle) : Except Status (SlotId × Permit) :=
  if revoke && p ≠ 0 then .error .notPermitted
  else if !(s.port p).isOpen then .error .noSession
  else
    match handleOf h with
    | none => .error .badField
    | some h =>
      match s.resolve h with
      | none => .error .staleHandle
      | some q => if revoke || s.ownedBy p q then .ok (h.slot, q) else .error .notOwner

/-- A request that names a permit: the handle checks, then the rest (R3). -/
def State.withPermit (s : State) (p : Port) (revoke : Bool) (h : RawHandle) (go : SlotId → Permit → Reply) : Reply :=
  match s.checkHandle p revoke h with
  | .error st => refuse s st
  | .ok (i, q) => go i q

end Sys2Proof.Machine
end

