-- ==== Sys2Proof/Machine/Attention.lean ====
section
/-! DEFINITION. Reading and acknowledging attention entries (chapter 8): NEXT_ATTENTION and the three ACKs. -/

namespace Sys2Proof.Machine

/-- NEXT_ATTENTION (R140): the head entry as it stands, nothing changed. -/
def State.runNextAttention (s : State) (p : Port) : Reply :=
  s.checked [((s.port p).isOpen, .noSession)] (answer s (s.attentionReport s.freeCount (s.port p).attention.head?))

/-- NEXT_ATTENTION. -/
def execNextAttention (s : State) : Host.Outcome State Fault Refusal :=
  .next (s.execute fun p r =>
    match r with
    | .nextAttention => some (s.runNextAttention p)
    | _ => none)

/-- An ACK of a permit removes kinds from its pending set; when the set empties the entry leaves the list (R141). -/
def State.acknowledge (s : State) (p : Port) (i : SlotId) (q : Permit) (kinds : NoticeSet) : State :=
  let left := q.pending.minus kinds
  let written := s.setPermit i { q with pending := left }
  if left.isEmpty then written.removeEntry p (.permit (s.handle i)) else written

/-- ACK of a permit entry (R141). -/
def State.runAckPermit (s : State) (p : Port) (h : RawHandle) (kinds : Byte) : Reply :=
  s.withPermit p false h fun i q =>
    match kindsOf kinds with
    | none => refuse s .badField
    | some set => answer (s.acknowledge p i q set) [noticesByte (q.pending.minus set)]

/-- ACK of a permit entry. -/
def execAckPermitEntry (s : State) : Host.Outcome State Fault Refusal :=
  .next (s.execute fun p r =>
    match r with
    | .ackPermit h kinds => some (s.runAckPermit p h kinds)
    | _ => none)

/-- Take off P0's list every entry of which a test is true (R142). -/
def State.dropEntries (s : State) (test : Entry → Bool) : State :=
  s.setPort 0 { s.port 0 with attention := (s.port 0).attention.filter fun e => !test e }

/-- ACK of a line entry (R142). -/
def State.runAckLine (s : State) (p : Port) (line : Byte) : Reply :=
  s.checked (s.supervisorChecks p)
    (match indexOf 16 line with
      | none => refuse s .badField
      | some l => answer (s.dropEntries (Entry.isLine l)) [bitByte ((s.port 0).attention.any (Entry.isLine l))])

/-- ACK of a line entry. -/
def execAckLineEntry (s : State) : Host.Outcome State Fault Refusal :=
  .next (s.execute fun p r =>
    match r with
    | .ackLine line => some (s.runAckLine p line)
    | _ => none)

/-- ACK of the quench entry (R142). -/
def State.runAckQuench (s : State) (p : Port) : Reply :=
  s.checked (s.supervisorChecks p)
    (answer (s.dropEntries Entry.isQuench) [bitByte ((s.port 0).attention.any Entry.isQuench)])

/-- ACK of the quench entry. -/
def execAckQuenchEntry (s : State) : Host.Outcome State Fault Refusal :=
  .next (s.execute fun p r =>
    match r with
    | .ackQuench => some (s.runAckQuench p)
    | _ => none)

end Sys2Proof.Machine
end

