-- ==== Sys2Proof/Machine/Groups.lean ====
section
/-! DEFINITION. The exclusion groups (chapter 5): SET_GROUP, and the ticks of the gap, GAP_TICK and GAP_END. -/

namespace Sys2Proof.Machine

/-- A line of the set is a member of another group (R89 check 4). -/
def State.inOtherGroup (s : State) (g : GroupId) (ls : LineSet) : Bool :=
  allGroups.any fun g' => g' ≠ g && (s.group g').members &&& ls ≠ 0

/-- A permit in service names a line of the set (R89 check 5). -/
def State.anyInServiceOn (s : State) (ls : LineSet) : Bool :=
  !(s.slotsWith fun q => q.state.inService && q.lines &&& ls ≠ 0).isEmpty

/-- The happening is a tick on its way to a group. -/
def Due.isForGroup (g : GroupId) : Due → Bool
  | .groupTick _ g' => g' = g
  | .permitTick _ => false
  | .lineTick _ _ => false
  | .sourceTick _ _ => false
  | .sourceEdge _ _ _ => false
  | .trigger _ => false
  | .renewal _ => false

/-- SET_GROUP (R89, R90). DESIGN CHOICE (notes/assumptions/9.md): a tick still on its way to the group, which is FREE, passes
it by. -/
def State.runSetGroup (s : State) (p : Port) (group : Byte) (members : Word) (gap timebase : Byte) : Reply :=
  s.checked (s.supervisorChecks p)
    (match indexOf 8 group, membersOf members, indexOf 4 timebase with
      | some g, some ls, some tb =>
        let gr := s.group g
        s.checked
          [(!s.inOtherGroup g ls, .groupConflict),
            (gr.state = .free && !s.anyInServiceOn gr.members && !s.anyInServiceOn ls, .inUse)]
          (answer ((s.setGroup g { gr with members := ls, gap := gap.toNat, timebase := tb }).withdraw (Due.isForGroup g)) [])
      | _, _, _ => refuse s .badField)

/-- SET_GROUP. -/
def execSetGroup (s : State) : Host.Outcome State Fault Refusal :=
  .next (s.execute fun p r =>
    match r with
    | .setGroup group members gap tb => some (s.runSetGroup p group members gap tb)
    | _ => none)

/-- A tick of the group timebase taken by a group (R95): in GAP the remaining gap falls by one, and at zero the group is
FREE and makes a grant (R96); in FREE and HELD nothing. -/
def State.gapTickAt (s : State) (g : GroupId) : State :=
  let gr := s.group g
  match gr.state with
  | .free => s
  | .held _ => s
  | .gap r =>
    if r ≤ 1 then (s.setGroup g { gr with state := .free }).grant g
    else s.setGroup g { gr with state := .gap (r - 1) }

/-- The gap ends at the next tick. -/
def GroupState.lastTick : GroupState → Bool
  | .free => false
  | .held _ => false
  | .gap r => r ≤ 1

/-- A tick of the group's timebase is due at it (R121). -/
def State.takeGroupTick (s : State) (g : GroupId) : Option State :=
  s.takeDue fun d => d = .groupTick (s.group g).timebase g

/-- GAP_TICK (R95): the group takes the tick due, whatever it leads to. -/
def execGapTick (g : GroupId) (s : State) : Host.Outcome State Fault Refusal :=
  .next (s.outOfReset fun s =>
    match s.takeGroupTick g with
    | none => s
    | some s => (s.gapTickAt g).settleLevels)

/-- GAP_END (R95, R96): the tick due is the one that ends the gap. -/
def execGapEnd (g : GroupId) (s : State) : Host.Outcome State Fault Refusal :=
  .next (s.outOfReset fun s =>
    match s.takeGroupTick g with
    | none => s
    | some taken => if (s.group g).state.lastTick then (taken.gapTickAt g).settleLevels else s)

end Sys2Proof.Machine
end

