-- ==== Sys2Proof/Machine/Inputs.lean ====
section
/-! DEFINITION. Input conditioning (chapter 7): SET_INPUT, INPUT_SAMPLE, FILTERED_EDGE, and the taking of a filtered
edge by permits, INPUT_TRIGGER (R48) and INPUT_RENEWAL (R71, R72). -/

namespace Sys2Proof.Machine

/-- SET_INPUT (R132). -/
def State.runSetInput (s : State) (p : Port) (input depth divider : Byte) : Reply :=
  s.checked (s.supervisorChecks p)
    (match indexOf 8 input, inRange 1 7 depth.toNat, dividerOf divider with
      | some n, some d, some v =>
        let x := { s.input n with depth := d, divider := v, agreement := 0, phase := v.edges }
        answer (s.setInput n x) x.report
      | _, _, _ => refuse s .badField)

/-- SET_INPUT. -/
def execSetInput (s : State) : Host.Outcome State Fault Refusal :=
  .next (s.execute fun p r =>
    match r with
    | .setInput input depth divider => some (s.runSetInput p input depth divider)
    | _ => none)

/-- The REFCLK edge is a sample instant that changes the filtered level (R129, R130). -/
def Input.edgesOn (x : Input) (raw : Bool) : Bool :=
  x.phase ≤ 1 && x.sampled && raw ≠ x.level && x.agreement + 1 = x.depth

/-- The input after a rising edge of REFCLK, with the raw level of its pin (R128 to R130). -/
def Input.clocked (x : Input) (raw : Bool) : Input :=
  if 1 < x.phase then { x with phase := x.phase - 1 }
  else
    let y := { x with phase := x.divider.edges }
    if !x.sampled then { y with level := raw, agreement := 0, sampled := true }
    else if raw = x.level then { y with agreement := 0 }
    else if x.agreement + 1 = x.depth then { y with level := raw, agreement := 0 }
    else { y with agreement := x.agreement + 1 }

/-- A rising edge of REFCLK taken by an input (R129 to R131): a sample that changes the filtered level delivers an edge to
its receivers. -/
def State.clockInput (s : State) (n : InputId) (raw : Bool) : State :=
  let x := s.input n
  let clocked := s.setInput n (x.clocked raw)
  if x.edgesOn raw then clocked.deliver (s.edgeReceivers n raw) else clocked

/-- INPUT_SAMPLE (R128 to R130): a rising edge of REFCLK at the input, whatever it leads to (notes/assumptions/7.md). -/
def execInputSample (n : InputId) (raw : Bool) (s : State) : Host.Outcome State Fault Refusal :=
  .next (s.outOfReset fun s => s.clockInput n raw)

/-- FILTERED_EDGE (R130, R131): the REFCLK edge is a sample that changes the filtered level. -/
def execFilteredEdge (n : InputId) (raw : Bool) (s : State) : Host.Outcome State Fault Refusal :=
  .next (s.outOfReset fun s => if (s.input n).edgesOn raw then s.clockInput n raw else s)

/-- INPUT_TRIGGER (R47, R48): the permit in a slot takes the edge due at it as a trigger. -/
def execInputTrigger (i : SlotId) (s : State) : Host.Outcome State Fault Refusal :=
  .next (s.outOfReset fun s =>
    match s.takeDue fun d => d = .trigger (s.handle i) with
    | none => s
    | some s => (s.takeTrigger i).2.settleLevels)

/-- A renewal edge taken by a permit (R71, R72): it acts on an ACTIVE lease with an owner, renewing it outside the window
and ending it RENEW_EARLY inside. -/
def State.takeRenewal (s : State) (i : SlotId) : State :=
  match s.permit i with
  | none => s
  | some q =>
    if q.state = .active && q.owner.isSome then
      if q.insideWindow then s.endAbnormal i .renewEarly
      else s.setPermit i { q with remaining := q.hold, renewalAge := 0 }
    else s

/-- INPUT_RENEWAL (R71, R72): the lease in a slot takes the edge due at it as a renewal. -/
def execInputRenewal (i : SlotId) (s : State) : Host.Outcome State Fault Refusal :=
  .next (s.outOfReset fun s =>
    match s.takeDue fun d => d = .renewal (s.handle i) with
    | none => s
    | some s => (s.takeRenewal i).settleLevels)

end Sys2Proof.Machine
end

