-- ==== Sys2Proof/Machine/Life.lean ====
section
/-! DEFINITION. The requests that move one permit: ARM, RELEASE, REVOKE (chapter 2), FIRE (chapter 3), RENEW and
AMEND (chapter 4). -/

namespace Sys2Proof.Machine

/-- A line of the set is LOCKED (R23 check 3). -/
def State.anyLocked (s : State) (ls : LineSet) : Bool :=
  allLines.any fun l => ls.getLsbD l.val && (s.line l).condition.isLocked

/-- The permit as ARM leaves it (R24). -/
def Permit.rearmed (p : Permit) : Permit :=
  { p with state := .arming, remaining := 0, cycles := 0, renewalAge := 0, blockedAge := 0, endReason := none }

/-- ARM (R23, R24). -/
def State.runArm (s : State) (p : Port) (h : RawHandle) : Reply :=
  s.withPermit p false h fun i q =>
    s.checked
      [(!q.state.inService, .wrongState), (!s.quenched, .quenched), (!s.anyLocked q.lines, .lineLocked),
        (s.groupedCount q.lines ≤ 1, .groupConflict), ((s.timebase q.timebase).running, .timebaseStopped)]
      (answer (s.setPermit i q.rearmed) [])

/-- ARM. -/
def execArm (s : State) : Host.Outcome State Fault Refusal :=
  .next (s.execute fun p r =>
    match r with
    | .arm h => some (s.runArm p h)
    | _ => none)

/-- The outcome of a FIRE as its byte (R170). A FIRE that passes its checks finds a subscribed permit, so its trigger does
not pass by. -/
def TriggerOutcome.byte : TriggerOutcome → Byte
  | .accepted => 1
  | .restarted => 2
  | .missed => 3
  | .passedBy => 3

/-- FIRE (R49). -/
def State.runFire (s : State) (p : Port) (h : RawHandle) : Reply :=
  s.withPermit p false h fun i q =>
    s.checked [(q.trigger = .soft, .badRequest), (q.state.inService, .wrongState), (!s.quenched, .quenched)]
      (answer (s.takeTrigger i).2 [(s.takeTrigger i).1.byte])

/-- FIRE. -/
def execFire (s : State) : Host.Outcome State Fault Refusal :=
  .next (s.execute fun p r =>
    match r with
    | .fire h => some (s.runFire p h)
    | _ => none)

/-- The lease is renewed by RENEW requests. -/
def Shape.renewedByPort : Shape → Bool
  | .lease .port _ => true
  | .lease (.input _ _) _ => false
  | .pulse => false
  | .train _ _ => false

/-- WAITING, BLOCKED or ACTIVE (R67 check 2). -/
def Permit.takesRenew (p : Permit) : Bool :=
  match p.state with
  | .waiting => true
  | .blocked => true
  | .active => true
  | .idle => false
  | .arming => false
  | .armed => false
  | .resting => false
  | .ended => false

/-- The lease as an accepted renewal leaves it (R68, R71). -/
def Permit.renewed (p : Permit) : Permit := { p with remaining := p.hold, renewalAge := 0 }

/-- RENEW (R67 to R69). -/
def State.runRenew (s : State) (p : Port) (h : RawHandle) : Reply :=
  s.withPermit p false h fun i q =>
    s.checked
      [(q.shape.renewedByPort, .badRequest), (q.takesRenew, .wrongState),
        (!(q.state = .active && q.insideWindow), .tooEarly)]
      (if q.state = .active then answer (s.setPermit i q.renewed) [1] else answer s [2])

/-- RENEW. -/
def execRenew (s : State) : Host.Outcome State Fault Refusal :=
  .next (s.execute fun p r =>
    match r with
    | .renew h => some (s.runRenew p h)
    | _ => none)

/-- RELEASE (R41): a normal end. -/
def State.runRelease (s : State) (p : Port) (h : RawHandle) : Reply :=
  s.withPermit p false h fun i q =>
    s.checked [(q.state.inService, .wrongState)] (answer (s.endNormal i .released) [])

/-- RELEASE. -/
def execRelease (s : State) : Host.Outcome State Fault Refusal :=
  .next (s.execute fun p r =>
    match r with
    | .release h => some (s.runRelease p h)
    | _ => none)

/-- REVOKE (R43): an abnormal end, of any owner's permit or an orphan, from P0. -/
def State.runRevoke (s : State) (p : Port) (h : RawHandle) : Reply :=
  s.withPermit p true h fun i q =>
    s.checked [(q.state.inService, .wrongState)] (answer (s.endAbnormal i .revoked) [])

/-- REVOKE. -/
def execRevoke (s : State) : Host.Outcome State Fault Refusal :=
  .next (s.execute fun p r =>
    match r with
    | .revoke h => some (s.runRevoke p h)
    | _ => none)

/-! ### AMEND (R74 to R81) -/

/-- The AMEND names the field of this number, in the order of R74: 0 wait, 1 hold, 2 rest, 3 repeat, 4 minimum renewal
interval, 5 block limit, 6 notice mask, 7 retrigger policy, 8 orphan policy (R170). -/
def AmendFields.names (f : AmendFields) (k : Nat) : Bool := f.fieldMask.getLsbD k

/-- Every field named applies to the shape (R74 check 2). -/
def AmendFields.applies (f : AmendFields) (shape : Shape) : Bool :=
  (!(AmendFields.names f 2 || AmendFields.names f 3) || shape.isTrain) && (!AmendFields.names f 4 || shape.isLease)

/-- Every value named is in range (R74 check 4). -/
def AmendFields.inRanges (f : AmendFields) : Bool :=
  (!AmendFields.names f 1 || (inRange 1 65535 f.hold.toNat).isSome) &&
    (!AmendFields.names f 2 || (inRange 1 65535 f.rest.toNat).isSome) &&
    (!AmendFields.names f 6 || (maskOf f.mask).isSome) &&
    (!AmendFields.names f 7 || (choiceOf RetriggerPolicy.ignore .restart f.retrigger).isSome) &&
    (!AmendFields.names f 8 || (choiceOf OrphanPolicy.endRun .runOut f.orphan).isSome)

/-- The shape with its amended fields (R76, R78, R79). -/
def AmendFields.shape (f : AmendFields) : Shape → Shape
  | .pulse => .pulse
  | .train rest repeats =>
    .train (if AmendFields.names f 2 then f.rest.toNat else rest)
      (if AmendFields.names f 3 then f.repeats.toNat else repeats)
  | .lease src m => .lease src (if AmendFields.names f 4 then f.minInterval.toNat else m)

/-- Remaining after the amendment (R76, R77): an IMMEDIATE amendment of the count that governs the phase in course. -/
def AmendFields.remaining (f : AmendFields) (immediate : Bool) (p : Permit) : Nat :=
  if immediate then
    match p.state with
    | .waiting => if AmendFields.names f 0 then max 1 f.wait.toNat else p.remaining
    | .active => if AmendFields.names f 1 then f.hold.toNat else p.remaining
    | .resting => if AmendFields.names f 2 then f.rest.toNat else p.remaining
    | .idle => p.remaining
    | .arming => p.remaining
    | .armed => p.remaining
    | .blocked => p.remaining
    | .ended => p.remaining
  else p.remaining

/-- Renewal age after an amendment of the minimum renewal interval (R79). -/
def AmendFields.renewalAge (f : AmendFields) (p : Permit) : Nat :=
  if AmendFields.names f 4 then
    if p.shape.window = 0 then 0 else min p.renewalAge f.minInterval.toNat
  else p.renewalAge

/-- Blocked age after an amendment of the block limit (R80): kept only where a limit stood and still stands. -/
def AmendFields.blockedAge (f : AmendFields) (p : Permit) : Nat :=
  if AmendFields.names f 5 then
    if p.blockLimit.isSome && (blockLimitOf f.blockLimit).isSome then p.blockedAge else 0
  else p.blockedAge

/-- The permit as an AMEND that passes its checks leaves it (R75). -/
def Permit.amended (p : Permit) (f : AmendFields) (immediate : Bool) : Permit :=
  { p with
    wait := if AmendFields.names f 0 then f.wait.toNat else p.wait
    hold := if AmendFields.names f 1 then f.hold.toNat else p.hold
    shape := AmendFields.shape f p.shape
    blockLimit := if AmendFields.names f 5 then blockLimitOf f.blockLimit else p.blockLimit
    mask := if AmendFields.names f 6 then noticesOf f.mask else p.mask
    retrigger :=
      if AmendFields.names f 7 then (choiceOf RetriggerPolicy.ignore .restart f.retrigger).getD p.retrigger else p.retrigger
    orphan := if AmendFields.names f 8 then (choiceOf OrphanPolicy.endRun .runOut f.orphan).getD p.orphan else p.orphan
    remaining := AmendFields.remaining f immediate p
    renewalAge := AmendFields.renewalAge f p
    blockedAge := AmendFields.blockedAge f p }

/-- AMEND (R74, R75): mode 0 DEFERRED, 1 IMMEDIATE. DEDUCED (notes/assumptions/22.md): R169 has 0 for the value named first in the
chapter that defines the field, and R74, which defines the mode, names DEFERRED first. -/
def State.runAmend (s : State) (p : Port) (f : AmendFields) : Reply :=
  s.withPermit p false f.handle fun i q =>
    s.checked
      [(f.fieldMask.toNat < 512, .badRequest), (AmendFields.applies f q.shape, .badRequest), (f.mode.toNat < 2, .badField),
        (AmendFields.inRanges f, .badField)]
      (let q' := q.amended f (f.mode = 1)
       answer (s.setPermit i q') (stateByte q'.state :: countBytes q'.remaining))

/-- AMEND. -/
def execAmend (s : State) : Host.Outcome State Fault Refusal :=
  .next (s.execute fun p r =>
    match r with
    | .amend f => some (s.runAmend p f)
    | _ => none)

end Sys2Proof.Machine
end

