-- ==== Sys2Proof/Machine/Lines.lean ====
section
/-! DEFINITION. The drive lines (chapters 5 and 6): SET_LINE, LOCK_LINE, CLEAR_LINE, READ_LINES, and the sense check's
ticks SENSE_CHECK and SENSE_LOCK. -/

namespace Sys2Proof.Machine

/-- The settings that a SET_LINE asks for, each in range, on a line as it stands (R86 check 3, R87). -/
def lineSettings (x : Line) (polarity check tolerance timebase sensePolarity : Byte) : Option Line := do
  let pol ← choiceOf Polarity.activeHigh .activeLow polarity
  let on ← choiceOf false true check
  let tol ← inRange 1 255 tolerance.toNat
  let tb ← indexOf 4 timebase
  let spol ← choiceOf SensePolarity.same .inverted sensePolarity
  return { x with polarity := pol, senseOn := on, tolerance := tol, checkTimebase := tb, sensePolarity := spol, mismatch := 0 }

/-- The happening is a tick on its way to a line. -/
def Due.isForLine (l : LineId) : Due → Bool
  | .lineTick _ l' => l' = l
  | .permitTick _ => false
  | .groupTick _ _ => false
  | .sourceTick _ _ => false
  | .sourceEdge _ _ _ => false
  | .trigger _ => false
  | .renewal _ => false

/-- SET_LINE (R86, R87). The new sense settings are used from the next tick of the new check timebase. DESIGN CHOICE
(notes/assumptions/9.md): that is the next tick emitted, so a tick still on its way to the line passes it by. -/
def State.runSetLine (s : State) (p : Port) (line polarity check tolerance timebase sensePolarity : Byte) : Reply :=
  s.checked (s.supervisorChecks p)
    (match indexOf 16 line with
      | none => refuse s .badField
      | some l =>
        match lineSettings (s.line l) polarity check tolerance timebase sensePolarity with
        | none => refuse s .badField
        | some x => s.checked [((s.inServiceOn l).isEmpty, .inUse)] (answer ((s.setLine l x).withdraw (Due.isForLine l)) []))

/-- SET_LINE. -/
def execSetLine (s : State) : Host.Outcome State Fault Refusal :=
  .next (s.execute fun p r =>
    match r with
    | .setLine line pol check tol tb spol => some (s.runSetLine p line pol check tol tb spol)
    | _ => none)

/-- LOCK_LINE (R106, R107). -/
def State.runLockLine (s : State) (p : Port) (line : Byte) : Reply :=
  s.checked (s.supervisorChecks p)
    (match indexOf 16 line with
      | none => refuse s .badField
      | some l => s.checked [(!(s.line l).condition.isLocked, .wrongState)] (answer (s.lockBy l .manual) []))

/-- LOCK_LINE. -/
def execLockLine (s : State) : Host.Outcome State Fault Refusal :=
  .next (s.execute fun p r =>
    match r with
    | .lockLine line => some (s.runLockLine p line)
    | _ => none)

/-- CLEAR_LINE (R110). -/
def State.runClearLine (s : State) (p : Port) (line : Byte) : Reply :=
  s.checked (s.supervisorChecks p)
    (match indexOf 16 line with
      | none => refuse s .badField
      | some l =>
        s.checked [((s.line l).condition.isLocked, .wrongState)]
          (answer (s.setLine l { s.line l with condition := .normal, mismatch := 0 }) []))

/-- CLEAR_LINE. -/
def execClearLine (s : State) : Host.Outcome State Fault Refusal :=
  .next (s.execute fun p r =>
    match r with
    | .clearLine line => some (s.runClearLine p line)
    | _ => none)

/-- READ_LINES (R102, R172): taken with or without a session, changes nothing. -/
def State.runReadLines (s : State) (_p : Port) : Reply := answer s (s.linesReport s.freeCount)

/-- READ_LINES. -/
def execReadLines (s : State) : Host.Outcome State Fault Refusal :=
  .next (s.execute fun p r =>
    match r with
    | .readLines => some (s.runReadLines p)
    | _ => none)

/-! ### The sense check -/

/-- The next mismatch would lock the line (R103, R105). -/
def Line.locksOn (x : Line) (senseHigh : Bool) : Bool :=
  x.checking && senseHigh ≠ x.expectedSense && x.mismatch + 1 = x.tolerance

/-- A tick of the check timebase taken by a line, with the sampled level of Sn (R103, R105). -/
def State.senseTick (s : State) (l : LineId) (senseHigh : Bool) : State :=
  let x := s.line l
  if x.checking then
    if senseHigh = x.expectedSense then s.setLine l { x with mismatch := 0 }
    else
      let counted := s.setLine l { x with mismatch := x.mismatch + 1 }
      if x.mismatch + 1 = x.tolerance then counted.lockBy l .sense else counted
  else s

/-- A tick of the line's check timebase is due at it (R121). None is due from before a SET_LINE of the line or a
STOP_TIMEBASE of the timebase (notes/assumptions/9.md). -/
def State.takeLineTick (s : State) (l : LineId) : Option State :=
  s.takeDue fun d => d = .lineTick (s.line l).checkTimebase l

/-- SENSE_CHECK (R103, R104): the line takes the tick due, whatever it leads to; with the check OFF or the line LOCKED the
tick makes no comparison. -/
def execSenseCheck (l : LineId) (senseHigh : Bool) (s : State) : Host.Outcome State Fault Refusal :=
  .next (s.outOfReset fun s =>
    match s.takeLineTick l with
    | none => s
    | some s => (s.senseTick l senseHigh).settleLevels)

/-- SENSE_LOCK (R105, R107): the tick due is one at which the mismatch count reaches the tolerance. -/
def execSenseLock (l : LineId) (senseHigh : Bool) (s : State) : Host.Outcome State Fault Refusal :=
  .next (s.outOfReset fun s =>
    match s.takeLineTick l with
    | none => s
    | some taken => if (s.line l).locksOn senseHigh then (taken.senseTick l senseHigh).settleLevels else s)

end Sys2Proof.Machine
end

