-- ==== Sys2Proof/Machine/PortUnit.lean ====
section
/-! DEFINITION. The port units (chapter 10): TRANSACTION_START, REQUEST_FRAME, BREAK, and the bytes and bits on SDO. -/

namespace Sys2Proof.Machine

/-- The response that a transaction beginning now shifts out (R166): NOT_READY while the holder is PENDING, otherwise the
stored response. -/
def PortUnit.chosenResponse (u : PortUnit) : Response :=
  match u.holder with
  | .pending f => { seq := some f.seq, code := f.code, status := .notReady, data := [] }
  | .vacant => u.stored
  | .done => u.stored

/-- TRANSACTION_START (R156, R166): the port fixes the response frame with the attention count as it stands. While RESET_N
is low, or with a transaction in progress, there is no fall for the port to take. -/
def execTransactionStart (p : Port) (s : State) : Host.Outcome State Fault Refusal :=
  .next (s.outOfReset fun s =>
    let u := s.port p
    match u.transaction with
    | some _ => s
    | none =>
      s.drawn.setPort p
        { u with
          transaction := some
            { response := u.chosenResponse, attention := u.attentionCount
              free := (Config.freeByte s.freeCount 255).setWidth 4 } })

/-- The byte of number n that SDO carries in a transaction, counted from its first: the response frame, and after its last
byte bytes of value 0 (R156, R166). Without a transaction SDO is at high impedance. DESIGN CHOICE (notes/assumptions/19.md):
so also while chip select has been low since before RESET_N rose. -/
def PortUnit.sdo (u : PortUnit) (n : Nat) : Option Byte :=
  u.transaction.map fun t => (responseFrame t.free t.response t.attention).getD n 0

/-- The level of SDO in a transaction after this many falling edges of the clock (R156): the first bit stands from the fall of chip
select, each falling edge brings the next, and each byte goes most significant bit first. None is high impedance. -/
def PortUnit.sdoBit (u : PortUnit) (falls : Nat) : Option Bool := (u.sdo (falls / 8)).bind fun b => (bitsOf b)[falls % 8]?

/-- The stored response after a frame that fails the frame check (R158, R168). -/
def PortUnit.badFrame (u : PortUnit) : Response := { seq := u.lastSeq, code := 0xFF, status := .badFrame, data := [] }

/-- The port judges a received frame (R158 to R161), t being the response its own transaction shifted out. -/
def PortUnit.judge (u : PortUnit) (t : ShiftOut) (bytes : List Byte) : PortUnit :=
  match parseFrame bytes with
  | none => { u with stored := u.badFrame }
  | some f =>
    if f.code = 0 then u
    else if t.response.status = .notReady then u
    else if u.lastSeq = some f.seq && u.holder = .done then u
    else { u with holder := .pending f, lastSeq := some f.seq }

/-- A break resets the port (R162): an open session is torn down, the holder is VACANT, the last sequence number absent, and
the stored response the idle response. -/
def State.breakAt (s : State) (p : Port) : State :=
  let torn := if (s.port p).isOpen then s.teardown p else s
  (torn.setPort p
    { torn.port p with holder := .vacant, lastSeq := none, stored := .idle, transaction := none }).settleLevels

/-- REQUEST_FRAME (R156, R158 to R161): the rise of chip select ends the transaction in progress and the port judges the
whole bytes of the bits it sampled. With fewer than 8 bits, one to each rising edge, the transaction is a break (R156, R162). With
no transaction in progress there is no rise for the port to take (notes/assumptions/15.md). -/
def execRequestFrame (p : Port) (bits : List Bool) (s : State) : Host.Outcome State Fault Refusal :=
  .next (s.outOfReset fun s =>
    let u := s.port p
    match u.transaction with
    | none => s
    | some t =>
      if bits.length < 8 then s.breakAt p
      else s.setPort p { u.judge t (bytesOf bits) with transaction := none })

/-- BREAK (R162). -/
def execBreakPort (p : Port) (s : State) : Host.Outcome State Fault Refusal :=
  .next (s.outOfReset fun s =>
    match (s.port p).transaction with
    | none => s
    | some _ => s.breakAt p)

end Sys2Proof.Machine
end

