-- ==== Sys2Proof/Machine/Quench.lean ====
section
/-! DEFINITION. The quench unit (chapter 6): QUENCH_SET, QUENCH_CLEAR, QUENCH_PIN_CHANGE. -/

namespace Sys2Proof.Machine

/-- The answer to QUENCH_SET and QUENCH_CLEAR: the latch and the condition as the request left them (R113). -/
def State.quenchReply (s : State) : Reply := answer s [bitByte s.latch, bitByte s.quenched]

/-- QUENCH_SET (R113). -/
def State.runQuenchSet (s : State) (p : Port) : Reply :=
  s.checked (s.supervisorChecks p) (s.setQuench s.quenchLow true).quenchReply

/-- QUENCH_SET. -/
def execQuenchSet (s : State) : Host.Outcome State Fault Refusal :=
  .next (s.execute fun p r =>
    match r with
    | .quenchSet => some (s.runQuenchSet p)
    | _ => none)

/-- QUENCH_CLEAR (R113). -/
def State.runQuenchClear (s : State) (p : Port) : Reply :=
  s.checked (s.supervisorChecks p) (s.setQuench s.quenchLow false).quenchReply

/-- QUENCH_CLEAR. -/
def execQuenchClear (s : State) : Host.Outcome State Fault Refusal :=
  .next (s.execute fun p r =>
    match r with
    | .quenchClear => some (s.runQuenchClear p)
    | _ => none)

/-- QUENCH_PIN_CHANGE (R112): the quench unit takes the new level of QUENCH_N. While RESET_N is low it takes none; the
level is taken up at RESET_RELEASE. -/
def execQuenchPinChange (low : Bool) (s : State) : Host.Outcome State Fault Refusal :=
  .next (s.outOfReset fun s => (s.setQuench low s.latch).settleLevels)

end Sys2Proof.Machine
end

