-- ==== Sys2Proof/Machine/Reset.lean ====
section
/-! DEFINITION. RESET and RESET_RELEASE (R1, R112, R156). -/

namespace Sys2Proof.Machine

/-- RESET (R1): power-on, or RESET_N going low. Every item takes its reset value; the commands still waiting, and the count
of open choices drawn, are the model's own and stand. -/
def execReset (s : State) : Host.Outcome State Fault Refusal :=
  .next { State.reset with pending := s.pending, freeCount := s.freeCount }

/-- RESET_RELEASE (R112, R156): RESET_N goes high, and the quench unit takes up the condition from the level of QUENCH_N,
with no onset, no end and no entry. With RESET_N already high there is no rise. -/
def execResetRelease (quenchLow : Bool) (s : State) : Host.Outcome State Fault Refusal :=
  .next (if s.resetLow then { s with resetLow := false, quenchLow := quenchLow } else s)

end Sys2Proof.Machine
end

