-- ==== Sys2Proof/Machine/Sessions.lean ====
section
/-! DEFINITION. Sessions, quotas and CLEAR_TABLE (chapter 9): OPEN, CLOSE, STATUS, SET_QUOTA, CLEAR_TABLE. -/

namespace Sys2Proof.Machine

/-- The session number after an OPEN: one more, from 255 to 1 (R146). -/
def nextSession (n : Byte) : Byte := if n = 255 then 1 else n + 1

/-- OPEN (R146). -/
def State.runOpen (s : State) (p : Port) : Reply :=
  let u := s.port p
  if u.isOpen then refuse s .wrongState
  else
    answer
      (s.setPort p { u with isOpen := true, session := nextSession u.session, owned := 0, attention := [] })
      [nextSession u.session, byteOf u.quota]

/-- OPEN. -/
def execOpenSession (s : State) : Host.Outcome State Fault Refusal :=
  .next (s.execute fun p r =>
    match r with
    | .openSession => some (s.runOpen p)
    | _ => none)

/-- CLOSE (R147, R150, R151). -/
def State.runClose (s : State) (p : Port) : Reply :=
  if (s.port p).isOpen then
    answer (s.teardown p) [byteOf (s.teardownCounts p).1, byteOf (s.teardownCounts p).2]
  else refuse s .noSession

/-- CLOSE. -/
def execCloseSession (s : State) : Host.Outcome State Fault Refusal :=
  .next (s.execute fun p r =>
    match r with
    | .closeSession => some (s.runClose p)
    | _ => none)

/-- STATUS (R145): taken with or without a session, changes nothing. -/
def State.runStatus (s : State) (p : Port) : Reply :=
  let u := s.port p
  answer s [bitByte u.isOpen, u.session, byteOf u.owned, byteOf u.quota, byteOf u.attentionCount]

/-- STATUS. -/
def execStatus (s : State) : Host.Outcome State Fault Refusal :=
  .next (s.execute fun p r =>
    match r with
    | .status => some (s.runStatus p)
    | _ => none)

/-- The sum of a quota for a port and the quotas of the two others (R149 check 5). -/
def State.quotaSum (s : State) (p : Port) (q : Nat) : Nat := q + (s.port (p + 1)).quota + (s.port (p + 2)).quota

/-- SET_QUOTA (R149). Its response carries the three quotas, refused or not (R149, R170). -/
def State.runSetQuota (s : State) (p : Port) (port quota : Byte) : Reply :=
  match firstFailure (s.supervisorChecks p) with
  | some st => { state := s, status := st, data := s.quotas }
  | none =>
    match indexOf 3 port, inRange 0 48 quota.toNat with
    | some q, some n =>
      if n < (s.port q).owned ∨ 48 < s.quotaSum q n then { state := s, status := .badField, data := s.quotas }
      else
        let written := s.setPort q { s.port q with quota := n }
        answer written written.quotas
    | _, _ => { state := s, status := .badField, data := s.quotas }

/-- SET_QUOTA. -/
def execSetQuota (s : State) : Host.Outcome State Fault Refusal :=
  .next (s.execute fun p r =>
    match r with
    | .setQuota port quota => some (s.runSetQuota p port quota)
    | _ => none)

/-- CLEAR_TABLE (R154, R155). -/
def State.runClearTable (s : State) (p : Port) : Reply :=
  s.checked (s.supervisorChecks p) (answer s.clearAll [byteOf (s.slotsWith fun _ => true).length])

/-- CLEAR_TABLE. -/
def execClearTable (s : State) : Host.Outcome State Fault Refusal :=
  .next (s.execute fun p r =>
    match r with
    | .clearTable => some (s.runClearTable p)
    | _ => none)

end Sys2Proof.Machine
end

