-- ==== Sys2Proof/Machine/Table.lean ====
section
/-! DEFINITION. The requests of the permit table (chapter 1): CREATE, RETIRE, QUERY, LIST. -/

namespace Sys2Proof.Machine

/-- The record that a CREATE asks for (R12, R15), none when a field that applies is out of range. -/
def createRecord (owner : Owner) (f : CreateFields) : Option Permit := do
  let shape ← shapeOf f
  let timebase ← indexOf 4 f.timebase
  let trigger ← triggerOf f.trigKind f.trigInput f.pred
  let gate ← gateOf f.gatePresent f.gate
  let hold ← inRange 1 65535 f.hold.toNat
  let mask ← maskOf f.mask
  if f.lines = 0 then none
  else
    some
      { owner := some owner, shape := shape, lines := f.lines, timebase := timebase, trigger := trigger, gate := gate,
        wait := f.wait.toNat, hold := hold, blockLimit := blockLimitOf f.blockLimit, mask := mask,
        retrigger := .ignore, orphan := .endRun, state := .idle, remaining := 0, cycles := 0, renewalAge := 0,
        blockedAge := 0, endReason := none, pending := {} }

/-- The predecessor that a trigger names. -/
def Trigger.pred : Trigger → Option Handle
  | .soft => none
  | .input _ _ => none
  | .chain h => h

/-- The reference is current and has the same owner (R14): the failing status, or none. -/
def State.referenceFailure (s : State) (p : Port) : Option Handle → Option Status
  | none => none
  | some h =>
    match s.resolve h with
    | none => some .staleHandle
    | some q => if s.ownedBy p q then none else some .notOwner

/-- The lowest-numbered EMPTY slot (R15). -/
def State.emptySlot (s : State) : Option SlotId := allSlots.find? fun i => (s.permit i).isNone

/-- The writes of a CREATE that passes its checks (R15). -/
def State.place (s : State) (p : Port) (i : SlotId) (q : Permit) : State :=
  (s.setPermit i q).setPort p { s.port p with owned := (s.port p).owned + 1 }

/-- CREATE (R10 to R15). -/
def State.runCreate (s : State) (p : Port) (f : CreateFields) : Reply :=
  if !(s.port p).isOpen then refuse s .noSession
  else
    match s.emptySlot with
    | none => refuse s .tableFull
    | some i =>
      if (s.port p).quota ≤ (s.port p).owned then refuse s .quotaExceeded
      else
        match createRecord { port := p, session := (s.port p).session } f with
        | none => refuse s .badField
        | some q =>
          if 1 < s.groupedCount q.lines then refuse s .groupConflict
          else
            match s.referenceFailure p q.trigger.pred with
            | some st => refuse s st
            | none =>
              match s.referenceFailure p q.gate with
              | some st => refuse s st
              | none => answer (s.place p i q) (handleBytes (s.handle i))

/-- CREATE. -/
def execCreate (s : State) : Host.Outcome State Fault Refusal :=
  .next (s.execute fun p r =>
    match r with
    | .create f => some (s.runCreate p f)
    | _ => none)

/-- Another permit of the same session names this one as its predecessor or its gate (R19). -/
def State.referenced (s : State) (p : Port) (i : SlotId) : Bool :=
  allSlots.any fun j =>
    j ≠ i &&
      match s.permit j with
      | none => false
      | some q => s.ownedBy p q && (q.trigger = .chain (some (s.handle i)) || q.gate = some (s.handle i))

/-- RETIRE (R19, R20). -/
def State.runRetire (s : State) (p : Port) (h : RawHandle) : Reply :=
  s.withPermit p false h fun i q =>
    s.checked [(!q.state.inService, .wrongState), (!s.referenced p i, .referenced)] (answer (s.retire i) [])

/-- RETIRE. -/
def execRetire (s : State) : Host.Outcome State Fault Refusal :=
  .next (s.execute fun p r =>
    match r with
    | .retire h => some (s.runRetire p h)
    | _ => none)

/-- QUERY (R17, R171): the whole record, nothing changed. -/
def State.runQuery (s : State) (p : Port) (h : RawHandle) : Reply :=
  s.withPermit p false h fun i q => answer s (q.report s.freeCount (s.handle i))

/-- QUERY. -/
def execQuery (s : State) : Host.Outcome State Fault Refusal :=
  .next (s.execute fun p r =>
    match r with
    | .query h => some (s.runQuery p h)
    | _ => none)

/-- The permit shows in a LIST made on the port: every permit on P0, those of the port's session elsewhere (R18). -/
def State.listed (s : State) (p : Port) (i : SlotId) : Bool :=
  match s.permit i with
  | none => false
  | some q => p = 0 || s.ownedBy p q

/-- The slots of a LIST from a start slot: the first twelve that show (R18). -/
def State.listPage (s : State) (p : Port) (start : Nat) : List SlotId :=
  (allSlots.filter fun i => start ≤ i.val && s.listed p i).take 12

/-- The next start slot of a LIST: after the twelfth entry when that is below slot 47, otherwise 48 (R18). -/
def nextStart (page : List SlotId) : Nat :=
  if page.length = 12 then
    match page.getLast? with
    | none => 48
    | some i => i.val + 1
  else 48

/-- LIST (R18). -/
def State.runList (s : State) (p : Port) (start : Byte) : Reply :=
  s.checked [((s.port p).isOpen, .noSession), (start.toNat < 48, .badField)]
    (let page := s.listPage p start.toNat
     answer s ([byteOf page.length, byteOf (nextStart page)] ++ page.flatMap (s.listEntry s.freeCount)))

/-- LIST. -/
def execListTable (s : State) : Host.Outcome State Fault Refusal :=
  .next (s.execute fun p r =>
    match r with
    | .listTable start => some (s.runList p start)
    | _ => none)

end Sys2Proof.Machine
end

