-- ==== Sys2Proof/Machine/Ticks.lean ====
section
/-! DEFINITION. A tick of its timebase taken by a permit (chapter 2), and the rows of the table that name its cases:
ARMING_TICK, PHASE_TICK, WAIT_END, PULSE_HOLD_END, TRAIN_HOLD_END, REST_END, LEASE_EXPIRY, BLOCKED_TICK, STARVATION.

PHASE_TICK and BLOCKED_TICK are the tick itself: the permit takes it and every consequence the rules give follows. The
rows that name a consequence (WAIT_END, STARVATION, …) act only where the tick due has that consequence
(notes/assumptions/5.md). -/

namespace Sys2Proof.Machine

/-- An ACTIVE permit counts a tick: remaining falls, and the renewal age of a lease with a window rises up to the window
(R32, R66). -/
def Permit.countHold (p : Permit) : Permit :=
  { p with
    remaining := p.remaining - 1
    renewalAge := if p.shape.window = 0 then p.renewalAge else min p.shape.window (p.renewalAge + 1) }

/-- The train is complete at the end of this hold (R33). -/
def Permit.trainComplete (p : Permit) (repeats : Nat) : Bool := decide (0 < repeats ∧ repeats ≤ p.cycles)

/-- A TRAIN goes from ACTIVE to RESTING (R33, R34): claims removed, rest loaded, and its group takes the release. -/
def State.enterResting (s : State) (i : SlotId) (p : Permit) (rest : Nat) : State :=
  ((s.removeClaims p.lines).setPermit i { p with state := .resting, remaining := rest }).releaseGroups

/-- The end of a hold, by shape (R32, R33, R35). -/
def State.holdEnd (s : State) (i : SlotId) (p : Permit) : State :=
  match p.shape with
  | .pulse => s.endNormal i .completed
  | .train rest repeats => if p.trainComplete repeats then s.endNormal i .completed else s.enterResting i p rest
  | .lease _ _ => s.endAbnormal i .expired

/-- A BLOCKED permit counts a tick (R36). -/
def State.blockedTickAt (s : State) (i : SlotId) (p : Permit) : State :=
  match p.blockLimit with
  | none => s
  | some b =>
    let aged := s.setPermit i { p with blockedAge := p.blockedAge + 1 }
    if b ≤ p.blockedAge + 1 then aged.endAbnormal i .starved else aged

/-- A tick of its timebase taken by the permit in a slot (R22, R25, R28, R32 to R36). -/
def State.permitTick (s : State) (i : SlotId) : State :=
  match s.permit i with
  | none => s
  | some p =>
    match p.state with
    | .idle => s
    | .armed => s
    | .ended => s
    | .arming => s.setPermit i { p with state := .armed }
    | .waiting | .resting =>
      let counted := s.setPermit i { p with remaining := p.remaining - 1 }
      if p.remaining ≤ 1 then counted.activate i else counted
    | .active =>
      let counted := s.setPermit i p.countHold
      if p.remaining ≤ 1 then counted.holdEnd i p.countHold else counted
    | .blocked => s.blockedTickAt i p

/-- The permit in a slot takes the tick due at it, when the permit is one of which a test is true. -/
def State.takePermitTick (s : State) (i : SlotId) (test : Permit → Bool) : State :=
  s.outOfReset fun s =>
    match s.permit i with
    | none => s
    | some p =>
      if test p then
        match s.takeDue fun d => d = .permitTick (s.handle i) with
        | none => s
        | some s => (s.permitTick i).settleLevels
      else s

/-- The tick of the phase in course is its last (R27). -/
def Permit.lastTick (p : Permit) (st : PState) : Bool := p.state = st && p.remaining ≤ 1

/-- ARMING_TICK (R25). -/
def execArmingTick (i : SlotId) (s : State) : Host.Outcome State Fault Refusal :=
  .next (s.takePermitTick i fun p => p.state = .arming)

/-- PHASE_TICK (R27, R28, R32, R34): a tick in WAITING, ACTIVE or RESTING, whatever it leads to. A tick that finds the permit
in IDLE, ARMED or ENDED changes nothing (R22). -/
def execPhaseTick (i : SlotId) (s : State) : Host.Outcome State Fault Refusal :=
  .next (s.takePermitTick i fun p => p.state ≠ .arming && p.state ≠ .blocked)

/-- WAIT_END (R28). -/
def execWaitEnd (i : SlotId) (s : State) : Host.Outcome State Fault Refusal :=
  .next (s.takePermitTick i fun p => p.lastTick .waiting)

/-- PULSE_HOLD_END (R32). -/
def execPulseHoldEnd (i : SlotId) (s : State) : Host.Outcome State Fault Refusal :=
  .next (s.takePermitTick i fun p => p.lastTick .active && p.shape = .pulse)

/-- TRAIN_HOLD_END (R33). -/
def execTrainHoldEnd (i : SlotId) (s : State) : Host.Outcome State Fault Refusal :=
  .next (s.takePermitTick i fun p => p.lastTick .active && p.shape.isTrain)

/-- REST_END (R34). -/
def execRestEnd (i : SlotId) (s : State) : Host.Outcome State Fault Refusal :=
  .next (s.takePermitTick i fun p => p.lastTick .resting)

/-- LEASE_EXPIRY (R35). -/
def execLeaseExpiry (i : SlotId) (s : State) : Host.Outcome State Fault Refusal :=
  .next (s.takePermitTick i fun p => p.lastTick .active && p.shape.isLease)

/-- BLOCKED_TICK (R36): a tick in BLOCKED, whatever it leads to. -/
def execBlockedTick (i : SlotId) (s : State) : Host.Outcome State Fault Refusal :=
  .next (s.takePermitTick i fun p => p.state = .blocked)

/-- The next tick in BLOCKED brings blocked age to the block limit (R36). -/
def Permit.starvesNext (p : Permit) : Bool :=
  p.state = .blocked &&
    match p.blockLimit with
    | none => false
    | some b => b ≤ p.blockedAge + 1

/-- STARVATION (R36). -/
def execStarvation (i : SlotId) (s : State) : Host.Outcome State Fault Refusal :=
  .next (s.takePermitTick i fun p => p.starvesNext)

end Sys2Proof.Machine
end

