-- ==== Sys2Proof/Machine/Timebases.lean ====
section
/-! DEFINITION. The timebases (chapter 7): SET_TIMEBASE, START_TIMEBASE, STOP_TIMEBASE, and the source events
TIMEBASE_SOURCE_EVENT and TIMEBASE_TICK. -/

namespace Sys2Proof.Machine

/-- A response to a timebase request with the timebase report (R122, R125, R127). -/
def State.timebaseReply (s : State) (k : TimebaseId) (st : Status) : Reply :=
  { state := s, status := st, data := (s.timebase k).report s.freeCount }

/-- SET_TIMEBASE (R122 to R124). -/
def State.runSetTimebase (s : State) (p : Port) (timebase kind argument : Byte) (divisor : Word) : Reply :=
  s.checked (s.supervisorChecks p)
    (match indexOf 4 timebase with
      | none => refuse s .badField
      | some k =>
        match sourceOf k kind argument with
        | none => refuse s .badField
        | some src =>
          let x := s.timebase k
          if x.running then
            if x.source = src then (s.setTimebase k { x with pendingDivisor := some (divisorOf divisor) }).timebaseReply k .ok
            else s.timebaseReply k .wrongState
          else
            (s.setTimebase k { x with source := src, divisor := divisorOf divisor, count := divisorOf divisor }).timebaseReply
              k .ok)

/-- SET_TIMEBASE. -/
def execSetTimebase (s : State) : Host.Outcome State Fault Refusal :=
  .next (s.execute fun p r =>
    match r with
    | .setTimebase tb kind arg d => some (s.runSetTimebase p tb kind arg d)
    | _ => none)

/-- The source is not TICK, or the source timebase is RUNNING (R125 check 5). -/
def State.sourceRuns (s : State) : TimebaseSource → Bool
  | .refclk => true
  | .edge _ _ => true
  | .tick k => (s.timebase k).running

/-- START_TIMEBASE (R125). -/
def State.runStartTimebase (s : State) (p : Port) (timebase : Byte) : Reply :=
  s.checked (s.supervisorChecks p)
    (match indexOf 4 timebase with
      | none => refuse s .badField
      | some k =>
        let x := s.timebase k
        if x.running || !s.sourceRuns x.source then s.timebaseReply k .wrongState
        else (s.setTimebase k { x with count := x.divisor, running := true }).timebaseReply k .ok)

/-- START_TIMEBASE. -/
def execStartTimebase (s : State) : Host.Outcome State Fault Refusal :=
  .next (s.execute fun p r =>
    match r with
    | .startTimebase tb => some (s.runStartTimebase p tb)
    | _ => none)

/-- A user depends on the timebase (R126). -/
def State.hasDependent (s : State) (k : TimebaseId) : Bool :=
  !(s.slotsWith fun q => q.timebase = k && q.state.inService).isEmpty ||
    (allGroups.any fun g => (s.group g).timebase = k && (s.group g).state.isGap) ||
    (allLines.any fun l => (s.line l).checkTimebase = k && (s.line l).senseOn) ||
    (allTimebases.any fun j => (s.timebase j).source = .tick k && (s.timebase j).running)

/-- The happening is a tick of a timebase, or a source event on its way to it. -/
def Due.isOf (k : TimebaseId) : Due → Bool
  | .groupTick j _ => j = k
  | .lineTick j _ => j = k
  | .sourceTick j tb => j = k || tb = k
  | .sourceEdge _ _ tb => tb = k
  | .permitTick _ => false
  | .trigger _ => false
  | .renewal _ => false

/-- STOP_TIMEBASE (R126, R127). No user of a stopped timebase takes a tick until it runs again (R87, R95, R127), so its ticks
and source events still on their way pass their users by (notes/assumptions/9.md); no permit that they could be on their way
to is in service.
DEDUCED (notes/assumptions/21.md): the row of R127's table for ARM names the two orders the other way round than R23, R26 and
R126 do, and the model follows those rules: an ARM executed first makes the stop IN_USE, and an ARM executed after the stop
is refused TIMEBASE_STOPPED. -/
def State.runStopTimebase (s : State) (p : Port) (timebase : Byte) : Reply :=
  s.checked (s.supervisorChecks p)
    (match indexOf 4 timebase with
      | none => refuse s .badField
      | some k =>
        let x := s.timebase k
        if !x.running then s.timebaseReply k .wrongState
        else if s.hasDependent k then s.timebaseReply k .inUse
        else
          ((s.setTimebase k
            { x with
              running := false, divisor := x.pendingDivisor.getD x.divisor, pendingDivisor := none }).withdraw
            (Due.isOf k)).timebaseReply k .ok)

/-- STOP_TIMEBASE. -/
def execStopTimebase (s : State) : Host.Outcome State Fault Refusal :=
  .next (s.execute fun p r =>
    match r with
    | .stopTimebase tb => some (s.runStopTimebase p tb)
    | _ => none)

/-! ### Source events -/

/-- The timebase after a reload (R120): a pending divisor becomes the divisor. -/
def Timebase.reloaded (x : Timebase) : Timebase :=
  { x with
    divisor := x.pendingDivisor.getD x.divisor
    pendingDivisor := none
    count := x.pendingDivisor.getD x.divisor }

/-- The next source event is a tick: RUNNING, and one event from zero (R120). -/
def Timebase.ticksNext (x : Timebase) : Bool := x.running && x.count ≤ 1

/-- A source event taken by a timebase (R119 to R121): RUNNING it lowers the running count, and at zero a tick is emitted
to every user and the count reloads; STOPPED it changes nothing. -/
def State.sourceEvent (s : State) (k : TimebaseId) : State :=
  let x := s.timebase k
  if x.running then
    if x.count ≤ 1 then (s.setTimebase k x.reloaded).deliver (s.tickUsers k)
    else s.setTimebase k { x with count := x.count - 1 }
  else s

/-- The due item is an edge of this input, of a direction that the source takes, at this timebase (R119). -/
def Due.isSourceEdge (n : InputId) (e : Edge) (k : TimebaseId) : Due → Bool
  | .sourceEdge m rising j => m = n && e.takes rising && j = k
  | .permitTick _ => false
  | .groupTick _ _ => false
  | .lineTick _ _ => false
  | .sourceTick _ _ => false
  | .trigger _ => false
  | .renewal _ => false

/-- A source event reaches the timebase (R119). A REFCLK edge comes from outside with the command
(notes/assumptions/7.md); a tick or a filtered edge must be due. -/
def State.takeSourceEvent (s : State) (k : TimebaseId) : Option State :=
  match (s.timebase k).source with
  | .refclk => some s
  | .tick j => s.takeDue fun d => d = .sourceTick j k
  | .edge n e => s.takeDue (Due.isSourceEdge n e k)

/-- TIMEBASE_SOURCE_EVENT (R119, R120): the timebase takes a source event, whatever it leads to. -/
def execTimebaseSourceEvent (k : TimebaseId) (s : State) : Host.Outcome State Fault Refusal :=
  .next (s.outOfReset fun s =>
    match s.takeSourceEvent k with
    | none => s
    | some s => s.sourceEvent k)

/-- TIMEBASE_TICK (R120, R121): the source event is one that brings the running count to zero. -/
def execTimebaseTick (k : TimebaseId) (s : State) : Host.Outcome State Fault Refusal :=
  .next (s.outOfReset fun s =>
    match s.takeSourceEvent k with
    | none => s
    | some taken => if (s.timebase k).ticksNext then taken.sourceEvent k else s)

end Sys2Proof.Machine
end

