-- ==== Sys2Proof/Machine/Dispatch.lean ====
section
/-! DEFINITION. exec: one arm per command, each one call of its meaning. -/

namespace Sys2Proof.Machine

/-- The effect of a command on everything but the queue of commands. -/
def exec (i : Instr) (s : State) : Host.Outcome State Fault Refusal :=
  match i with
  | .reset => Sys2Proof.Machine.execReset s
  | .resetRelease quenchLow => Sys2Proof.Machine.execResetRelease quenchLow s
  | .transactionStart p => Sys2Proof.Machine.execTransactionStart p s
  | .requestFrame p bits => Sys2Proof.Machine.execRequestFrame p bits s
  | .breakPort p => Sys2Proof.Machine.execBreakPort p s
  | .unknownRequest => Sys2Proof.Machine.execUnknownRequest s
  | .openSession => Sys2Proof.Machine.execOpenSession s
  | .closeSession => Sys2Proof.Machine.execCloseSession s
  | .status => Sys2Proof.Machine.execStatus s
  | .readLines => Sys2Proof.Machine.execReadLines s
  | .create => Sys2Proof.Machine.execCreate s
  | .arm => Sys2Proof.Machine.execArm s
  | .fire => Sys2Proof.Machine.execFire s
  | .renew => Sys2Proof.Machine.execRenew s
  | .release => Sys2Proof.Machine.execRelease s
  | .amend => Sys2Proof.Machine.execAmend s
  | .retire => Sys2Proof.Machine.execRetire s
  | .query => Sys2Proof.Machine.execQuery s
  | .listTable => Sys2Proof.Machine.execListTable s
  | .nextAttention => Sys2Proof.Machine.execNextAttention s
  | .ackPermitEntry => Sys2Proof.Machine.execAckPermitEntry s
  | .ackLineEntry => Sys2Proof.Machine.execAckLineEntry s
  | .ackQuenchEntry => Sys2Proof.Machine.execAckQuenchEntry s
  | .revoke => Sys2Proof.Machine.execRevoke s
  | .setTimebase => Sys2Proof.Machine.execSetTimebase s
  | .startTimebase => Sys2Proof.Machine.execStartTimebase s
  | .stopTimebase => Sys2Proof.Machine.execStopTimebase s
  | .setInput => Sys2Proof.Machine.execSetInput s
  | .setLine => Sys2Proof.Machine.execSetLine s
  | .setGroup => Sys2Proof.Machine.execSetGroup s
  | .lockLine => Sys2Proof.Machine.execLockLine s
  | .clearLine => Sys2Proof.Machine.execClearLine s
  | .setQuota => Sys2Proof.Machine.execSetQuota s
  | .quenchSet => Sys2Proof.Machine.execQuenchSet s
  | .quenchClear => Sys2Proof.Machine.execQuenchClear s
  | .clearTable => Sys2Proof.Machine.execClearTable s
  | .timebaseSourceEvent tb => Sys2Proof.Machine.execTimebaseSourceEvent tb s
  | .timebaseTick tb => Sys2Proof.Machine.execTimebaseTick tb s
  | .inputSample n raw => Sys2Proof.Machine.execInputSample n raw s
  | .filteredEdge n raw => Sys2Proof.Machine.execFilteredEdge n raw s
  | .inputTrigger slot => Sys2Proof.Machine.execInputTrigger slot s
  | .inputRenewal slot => Sys2Proof.Machine.execInputRenewal slot s
  | .armingTick slot => Sys2Proof.Machine.execArmingTick slot s
  | .phaseTick slot => Sys2Proof.Machine.execPhaseTick slot s
  | .waitEnd slot => Sys2Proof.Machine.execWaitEnd slot s
  | .pulseHoldEnd slot => Sys2Proof.Machine.execPulseHoldEnd slot s
  | .trainHoldEnd slot => Sys2Proof.Machine.execTrainHoldEnd slot s
  | .restEnd slot => Sys2Proof.Machine.execRestEnd slot s
  | .leaseExpiry slot => Sys2Proof.Machine.execLeaseExpiry slot s
  | .blockedTick slot => Sys2Proof.Machine.execBlockedTick slot s
  | .starvation slot => Sys2Proof.Machine.execStarvation slot s
  | .gapTick g => Sys2Proof.Machine.execGapTick g s
  | .gapEnd g => Sys2Proof.Machine.execGapEnd g s
  | .senseCheck l senseHigh => Sys2Proof.Machine.execSenseCheck l senseHigh s
  | .senseLock l senseHigh => Sys2Proof.Machine.execSenseLock l senseHigh s
  | .quenchPinChange low => Sys2Proof.Machine.execQuenchPinChange low s

end Sys2Proof.Machine
end

