-- ==== Sys2Proof/Safety.lean ====
section
/-! DEFINITION. What a sound state of the part is: the laws that the manual states for every moment between two
happenings (R84, R91, R97, R107, R115, R136, R148), the ranges of its tables (R9, R27, R118, R128), and the words in
which statements about commands speak of the engine's turn and of the end of an execution (R163). -/

namespace Sys2Proof.Machine

/-! ### Drive lines (R84, R107) -/

/-- A line is asserted exactly when its claim count is above zero (R84). -/
abbrev State.LevelLaw (s : State) : Prop := ∀ l : LineId, (s.line l).asserted = decide (0 < (s.line l).claims)

/-- The permits in ACTIVE that name a line. -/
def State.claimants (s : State) (l : LineId) : List SlotId := s.slotsWith fun p => p.state = .active && p.names l

/-- A line's claim count is the number of permits in ACTIVE that name it (R84). -/
abbrev State.ClaimLaw (s : State) : Prop := ∀ l : LineId, (s.line l).claims = (s.claimants l).length

/-- A LOCKED line is named by no permit in service (R107). -/
abbrev State.LockLaw (s : State) : Prop :=
  ∀ i : SlotId, ∀ p ∈ s.permit i, p.state.inService = true →
    ∀ l : LineId, p.names l = true → (s.line l).condition.isLocked = false

/-! ### Quench and reset (R115, R1) -/

/-- While the quench condition holds no permit is running (R115); while RESET_N is low there is no permit (R1). -/
abbrev State.QuenchLaw (s : State) : Prop :=
  (s.quenched = true → ∀ i : SlotId, ∀ p ∈ s.permit i, p.state.running = false) ∧
    (s.resetLow = true → ∀ i : SlotId, s.permit i = none)

/-! ### Exclusion groups (R88, R91, R97) -/

/-- No line is a member of two groups (R88). -/
abbrev State.MembersLaw (s : State) : Prop :=
  ∀ g g' : GroupId, ∀ l : LineId, (s.group g).has l = true → (s.group g').has l = true → g = g'

/-- A permit in service names at most one grouped line (R23, R29). -/
abbrev State.GroupedLaw (s : State) : Prop :=
  ∀ i : SlotId, ∀ p ∈ s.permit i, p.state.inService = true → s.groupedCount p.lines ≤ 1

/-- A group's claims as its state allows them (R91): FREE and GAP none; HELD by L a claim on L, which is a member, and on
no other member. -/
def State.claimsAllowed (s : State) (g : GroupId) : Prop :=
  match (s.group g).state with
  | .free => ∀ l : LineId, (s.group g).has l = true → (s.line l).claims = 0
  | .gap _ => ∀ l : LineId, (s.group g).has l = true → (s.line l).claims = 0
  | .held h =>
    (s.group g).has h = true ∧ 0 < (s.line h).claims ∧
      ∀ l : LineId, (s.group g).has l = true → l ≠ h → (s.line l).claims = 0

/-- The exclusion groups' law (R84, R88, R91), whole: enough of it to be kept by every step. -/
def State.ExclusionLaw (s : State) : Prop :=
  s.ClaimLaw ∧ s.LevelLaw ∧ s.MembersLaw ∧ s.GroupedLaw ∧ ∀ g : GroupId, s.claimsAllowed g

/-- A permit is BLOCKED on a group: BLOCKED, and naming a member line of it. -/
def State.blockedOn (s : State) (g : GroupId) (h : Handle) : Bool :=
  match s.blockedPermit h with
  | none => false
  | some p => (s.memberLine g p).isSome

/-- A group's wait queue holds the handles of the permits BLOCKED on it, each once, and is empty while the group is FREE
(R91, R97). -/
def State.QueueLaw (s : State) : Prop :=
  ∀ g : GroupId,
    (s.group g).queue.Nodup ∧ (∀ h : Handle, h ∈ (s.group g).queue ↔ s.blockedOn g h = true) ∧
      ((s.group g).state = .free → (s.group g).queue = [])

/-- A BLOCKED permit waits for a group (R31). -/
abbrev State.BlockedLaw (s : State) : Prop :=
  ∀ i : SlotId, ∀ p ∈ s.permit i, p.state = .blocked → (s.groupedLine p.lines).isSome = true

/-! ### Sessions, quotas and attention lists (R4, R136, R148) -/

/-- Every owner is the session now open on its port (R4). -/
abbrev State.OwnerLaw (s : State) : Prop :=
  ∀ i : SlotId, ∀ q ∈ s.permit i, ∀ o ∈ q.owner,
    (s.port o.port).isOpen = true ∧ (s.port o.port).session = o.session

/-- An ownerless permit is running (R151, R153). -/
abbrev State.OrphanLaw (s : State) : Prop := ∀ i : SlotId, ∀ q ∈ s.permit i, q.owner = none → q.state.running = true

/-- The handles that a permit refers to: its predecessor and its gate (R6, R7). -/
def Permit.references (q : Permit) : List Handle :=
  (match q.trigger with
    | .soft => []
    | .input _ _ => []
    | .chain h => h.toList) ++ q.gate.toList

/-- Every reference names a current permit of the same owner, an orphan's another orphan; a permit with an owner and a CHAIN
trigger has its predecessor (R6, R7, R151). -/
abbrev State.ReferenceLaw (s : State) : Prop :=
  ∀ i : SlotId, ∀ q ∈ s.permit i,
    (∀ h ∈ q.references, (s.resolve h).map Permit.owner = some q.owner) ∧ (q.owner ≠ none → q.trigger ≠ .chain none)

/-- A port's owned count is the number of permits its current session owns (R148). -/
abbrev State.CountLaw (s : State) : Prop :=
  ∀ p : Port, (s.port p).owned = (s.slotsWith (s.ownedBy p)).length

/-- No owned count exceeds its quota, and the quotas sum to at most 48 (R148). -/
abbrev State.QuotaLaw (s : State) : Prop :=
  (∀ p : Port, (s.port p).owned ≤ (s.port p).quota) ∧ (s.port 0).quota + (s.port 1).quota + (s.port 2).quota ≤ 48

/-- A permit's notices await its owner on this port: the handle is current, the port's session owns it, and its pending set is
not empty. -/
def State.awaits (s : State) (p : Port) (h : Handle) : Bool :=
  match s.resolve h with
  | none => false
  | some q => s.ownedBy p q && !q.pending.isEmpty

/-- The attention lists (R135, R136): each entry at most once, the permit entries exactly those of the port's permits whose
pending set is not empty, line and quench entries on P0 alone, and an orphan's pending set empty. -/
def State.ListLaw (s : State) : Prop :=
  (∀ p : Port,
    (∀ h : Handle, (s.port p).attention.count (.permit h) = if s.awaits p h then 1 else 0) ∧
      (∀ l : LineId, ((s.port p).attention.filter (Entry.isLine l)).length ≤ if p = 0 then 1 else 0) ∧
      ((s.port p).attention.filter Entry.isQuench).length ≤ if p = 0 then 1 else 0) ∧
    ∀ i : SlotId, ∀ q ∈ s.permit i, q.owner = none → q.pending = {}

/-! ### Ranges (R9, R27, R38, R118 to R126, R128) -/

/-- Every timebase keeps its ranges (R118, R120): divisors and running counts 1 to 65536, a running count that a RUNNING timebase keeps
within its divisor, no pending divisor while STOPPED, and a TICK source below it, RUNNING while it runs (R125, R126). -/
def State.TimebaseLaw (s : State) : Prop :=
  (∀ k : TimebaseId, 1 ≤ (s.timebase k).divisor ∧ (s.timebase k).divisor ≤ 65536 ∧ 1 ≤ (s.timebase k).count ∧
      (s.timebase k).count ≤ 65536 ∧
      (∀ d ∈ (s.timebase k).pendingDivisor, 1 ≤ d ∧ d ≤ 65536) ∧
      ((s.timebase k).running = true → (s.timebase k).count ≤ (s.timebase k).divisor) ∧
      ((s.timebase k).running = false → (s.timebase k).pendingDivisor = none) ∧
      ∀ j : TimebaseId, (s.timebase k).source = .tick j →
        j < k ∧ ((s.timebase k).running = true → (s.timebase j).running = true)) ∧
    ∀ i : SlotId, ∀ p ∈ s.permit i, p.state.inService = true → (s.timebase p.timebase).running = true

/-- A happening that is due has a user that may take it (R121, R131, R47), and comes of a timebase that is RUNNING (R95, R127):
a permit in service, subscribed to the input for a trigger or a renewal; a group or a line that counts on the timebase; a
RUNNING timebase of this source. -/
def State.mayBeDue (s : State) : Due → Prop
  | .permitTick h => ∃ q, s.resolve h = some q ∧ q.state.inService = true
  | .groupTick k g => (s.group g).timebase = k ∧ (s.timebase k).running = true
  | .lineTick k l => (s.line l).checkTimebase = k ∧ (s.line l).senseOn = true ∧ (s.timebase k).running = true
  | .sourceTick k tb => (s.timebase tb).source = .tick k ∧ (s.timebase tb).running = true
  | .sourceEdge n rising tb =>
    (s.timebase tb).running = true ∧ ∃ e : Edge, (s.timebase tb).source = .edge n e ∧ e.takes rising = true
  | .trigger h => ∃ q, s.resolve h = some q ∧ q.state.inService = true ∧ ∃ n e, q.trigger = .input n e
  | .renewal h => ∃ q, s.resolve h = some q ∧ q.state.inService = true ∧ ∃ n e m, q.shape = .lease (.input n e) m

/-- Nothing is due but at users that may take it. -/
def State.DueLaw (s : State) : Prop := ∀ d ∈ s.due, s.mayBeDue d

/-- Every input keeps its ranges (R128). -/
abbrev State.InputLaw (s : State) : Prop :=
  ∀ n : InputId, 1 ≤ (s.input n).depth ∧ (s.input n).depth ≤ 7 ∧ 1 ≤ (s.input n).phase ∧
    (s.input n).phase ≤ (s.input n).divider.edges ∧ (s.input n).agreement < (s.input n).depth

/-- The state counts a phase (R27). -/
def countsPhase : PState → Bool
  | .waiting => true
  | .active => true
  | .resting => true
  | .idle => false
  | .arming => false
  | .armed => false
  | .blocked => false
  | .ended => false

/-- A permit record in its ranges (R8, R9, R27, R38). -/
def Permit.inRanges (p : Permit) : Bool :=
  p.lines ≠ 0 && 1 ≤ p.hold && p.hold ≤ 65535 && p.wait ≤ 65535 &&
    (if countsPhase p.state then 1 ≤ p.remaining && p.remaining ≤ 65535 else p.remaining = 0) &&
    (p.endReason.isSome == (p.state == .ended)) &&
    (match p.shape with
      | .pulse => p.cycles = 0
      | .train rest repeats => 1 ≤ rest && rest ≤ 65535 && repeats ≤ 65535 && p.cycles ≤ 65535
      | .lease _ m => p.cycles = 0 && m ≤ 65535) &&
    p.renewalAge ≤ p.shape.window && (p.state ≠ .resting || p.shape.isTrain) &&
    (match p.blockLimit with
      | none => p.blockedAge = 0
      | some b => 1 ≤ b && b ≤ 65535) && !p.mask.ended

/-- Every permit record keeps its ranges. -/
abbrev State.RecordLaw (s : State) : Prop := ∀ i : SlotId, ∀ p ∈ s.permit i, p.inRanges = true

/-! ### Frames -/

/-- What no happening at permits changes, from one state to the next: timebases, inputs, quench, the engine's turn, the
settings and condition of every line, the settings of every group, and of every port all but its owned count and its
attention list. Permits, claim counts and levels, group states and queues, and the ticks and edges due may differ. -/
structure State.Moves (s t : State) : Prop where
  timebases : t.timebases = s.timebases
  inputs : t.inputs = s.inputs
  quenchLow : t.quenchLow = s.quenchLow
  latch : t.latch = s.latch
  resetLow : t.resetLow = s.resetLow
  lastServed : t.lastServed = s.lastServed
  pending : t.pending = s.pending
  line : ∀ l : LineId, t.line l =
    { s.line l with claims := (t.line l).claims, asserted := (t.line l).asserted, mismatch := (t.line l).mismatch }
  group : ∀ g : GroupId, t.group g = { s.group g with state := (t.group g).state, queue := (t.group g).queue }
  port : ∀ p : Port, t.port p = { s.port p with owned := (t.port p).owned, attention := (t.port p).attention }

/-- The lines as the end of a happening leaves them: each ASSERTED exactly while its claim count is above zero (R84), and the mismatch
count cleared by a change of level on a NORMAL line, and otherwise as it was (R104). -/
def State.Settles (s t : State) : Prop :=
  t.LevelLaw ∧ ∀ l : LineId, (t.line l).mismatch =
    if (t.line l).asserted = (s.line l).asserted ∨ (t.line l).condition ≠ .normal then (s.line l).mismatch else 0

/-- A port's attention list is this list with entries of permits appended at its tail (R136). -/
def State.Appends (t : State) (p : Port) (list : List Entry) : Prop :=
  ∃ more : List Entry, (t.port p).attention = list ++ more ∧ ∀ e ∈ more, ∃ h : Handle, e = .permit h

/-! ### The engine's turn and the end of an execution (R163) -/

/-- With RESET_N high, the engine's turn is at a port whose holder is PENDING with this request frame, and the frame decodes
to this request (R163, R164). -/
def State.Turn (s : State) (p : Port) (f : Frame) (r : Request) : Prop :=
  s.resetLow = false ∧ s.nextRequest = some (p, f) ∧ decodeRequest f.code f.fields = .ok r

/-- The command that is the execution of a request. -/
def rowOf : Request → Instr
  | .openSession => .openSession
  | .closeSession => .closeSession
  | .status => .status
  | .readLines => .readLines
  | .create _ => .create
  | .arm _ => .arm
  | .fire _ => .fire
  | .renew _ => .renew
  | .release _ => .release
  | .amend _ => .amend
  | .retire _ => .retire
  | .query _ => .query
  | .listTable _ => .listTable
  | .nextAttention => .nextAttention
  | .ackPermit _ _ => .ackPermitEntry
  | .ackLine _ => .ackLineEntry
  | .ackQuench => .ackQuenchEntry
  | .revoke _ => .revoke
  | .setTimebase _ _ _ _ => .setTimebase
  | .startTimebase _ => .startTimebase
  | .stopTimebase _ => .stopTimebase
  | .setInput _ _ _ => .setInput
  | .setLine _ _ _ _ _ _ => .setLine
  | .setGroup _ _ _ _ => .setGroup
  | .lockLine _ => .lockLine
  | .clearLine _ => .clearLine
  | .setQuota _ _ => .setQuota
  | .quenchSet => .quenchSet
  | .quenchClear => .quenchClear
  | .clearTable => .clearTable

/-- The raw handle is the current handle of a slot that holds a permit (R3). -/
def State.Names (s : State) (h : RawHandle) (i : SlotId) (q : Permit) : Prop :=
  h.slot.toNat = i.val ∧ h.gen = (s.slot i).gen ∧ s.permit i = some q

/-- A request that names a permit passes the handle checks: the session open, the handle current, and the permit owned by the
session (R3). -/
def State.Passes (s : State) (p : Port) (h : RawHandle) (i : SlotId) (q : Permit) : Prop :=
  (s.port p).isOpen = true ∧ s.Names h i q ∧ q.owner = some { port := p, session := (s.port p).session }

/-- P0's request passes the role and session checks of a supervisor request (R144). -/
def State.Supervisor (s : State) (p : Port) : Prop := p = 0 ∧ (s.port 0).isOpen = true

/-- A source event reaches a timebase (R119), and s0 is the state with it taken: a REFCLK edge comes from outside
(notes/assumptions/7.md), a tick or a filtered edge of a matching direction is due. -/
def State.SourceEvent (s : State) (k : TimebaseId) (s0 : State) : Prop :=
  match (s.timebase k).source with
  | .refclk => s0 = s
  | .tick j => Due.sourceTick j k ∈ s.due ∧ s0 = { s with due := s.due.erase (.sourceTick j k) }
  | .edge n e =>
    ∃ rising : Bool, e.takes rising = true ∧ Due.sourceEdge n rising k ∈ s.due ∧
      s0 = { s with due := s.due.eraseP (Due.isSourceEdge n e k) }

/-- A permit as its entry to ENDED leaves it, ENDED raised (R38, R134). -/
def Permit.endedBy (p : Permit) (r : EndReason) : Permit :=
  { p with state := .ended, remaining := 0, endReason := some r, pending := p.pending.add .ended }

/-- A permit with a kind raised, when it has an owner and reports the kind (R134). -/
def Permit.raised (p : Permit) (k : Notice) : Permit :=
  if p.owner ≠ none ∧ p.reports k = true then { p with pending := p.pending.add k } else p

/-- A BLOCKED permit as a grant leaves it: ACTIVE, its hold loaded, GRANTED raised to its owner (R30, R37, R96). -/
def Permit.granted (p : Permit) : Permit :=
  Permit.raised
    { p with
      state := .active, remaining := p.hold, cycles := if p.shape.isTrain then min 65535 (p.cycles + 1) else p.cycles
      renewalAge := if p.shape.isLease then 0 else p.renewalAge, blockedAge := 0 } .granted

/-- The slots whose permit has no owner and is one of those named: the orphans that a happening which ends these retires (R153). -/
def State.orphansOf (s : State) (named : SlotId → Bool) (i : SlotId) : Bool :=
  named i && (s.permit i).any fun q => q.owner = none

/-- A permit as the retirement of some slots leaves its references (R2, R7, R151): an orphan's references to the permits that were in
these slots are absent, and every other reference stands. -/
def State.unreferenced (s : State) (gone : SlotId → Bool) (q : Permit) : Permit :=
  if q.owner ≠ none then q
  else
    { q with
      trigger :=
        match q.trigger with
        | .chain (some h) => if s.handle h.slot = h ∧ gone h.slot = true then .chain none else q.trigger
        | _ => q.trigger
      gate :=
        match q.gate with
        | some h => if s.handle h.slot = h ∧ gone h.slot = true then none else q.gate
        | none => none }

/-- A permit that a happening leaves alone but for what it may take from others: an orphan loses its references to the retired slots,
and a BLOCKED permit may be granted its group by a release (R94, R96). -/
def State.Stays (s t : State) (gone : SlotId → Bool) (i : SlotId) (q : Permit) : Prop :=
  (t.slot i).gen = (s.slot i).gen ∧
    (t.permit i = some (s.unreferenced gone q) ∨
      (q.state = .blocked ∧ t.permit i = some (s.unreferenced gone q).granted))

/-- Every slot outside those that a happening touches is as it was, EMPTY or with a permit that stays. -/
def State.OthersStay (s t : State) (gone touched : SlotId → Bool) : Prop :=
  ∀ j : SlotId, touched j = false →
    (s.permit j = none → t.slot j = s.slot j) ∧ ∀ r : Permit, s.permit j = some r → s.Stays t gone j r

/-- The end of a permit as its slot shows it (R38, R153): ENDED with its reason and its handle, or for an orphan an EMPTY slot of
the next generation. -/
def State.EndsAs (s t : State) (i : SlotId) (p : Permit) (r : EndReason) : Prop :=
  if p.owner = none then t.permit i = none ∧ (t.slot i).gen = (s.slot i).gen + 1
  else t.permit i = some (p.endedBy r) ∧ (t.slot i).gen = (s.slot i).gen

/-- The permit's CHAIN trigger names the permit in a slot: it is a successor of that permit (R61). -/
def State.follows (s : State) (i : SlotId) (r : Permit) : Prop := r.trigger = .chain (some (s.handle i))

/-- What a normal end of the permit in a slot does to the others (R61). Each successor takes its trigger by its own state. One in IDLE
or ENDED is passed by; one in ARMING, one in ARMED under quench, and an IGNORE one that waits, holds or rests misses it; one without
a gate in ARMED outside quench, or with RESTART in WAITING, RESTING or ACTIVE, starts its run: it waits, or with a wait count of 0 makes
its activation request, or holds anew where it is ACTIVE. Every other slot is as it was, but that a BLOCKED permit may be granted its
group (R94), and that orphans lose their references to an orphan that ended (R153); every attention list keeps its entries (R136). -/
def State.HandsOn (s t : State) (i : SlotId) : Prop :=
  ∀ gone : SlotId → Bool, gone = s.orphansOf (fun k => k = i) →
  s.OthersStay t gone (fun j => j = i || (s.permit j).any fun r => r.trigger = .chain (some (s.handle i))) ∧
  (∀ p : Port, t.Appends p (s.port p).attention) ∧
  ∀ (j : SlotId) (r : Permit), j ≠ i → s.permit j = some r → s.follows i r →
    ((r.state = .idle ∨ r.state = .ended) → t.permit j = some (s.unreferenced gone r) ∧ (t.slot j).gen = (s.slot j).gen) ∧
    ((r.state = .arming ∨ (r.state = .armed ∧ s.quenched = true) ∨
        (r.retrigger = .ignore ∧ (r.state = .waiting ∨ r.state = .active ∨ r.state = .resting))) →
      t.permit j = some (s.unreferenced gone (r.raised .missed))) ∧
    (r.gate = none → 0 < r.wait →
      ((r.state = .armed ∧ s.quenched = false) ∨
        (r.retrigger = .restart ∧ (r.state = .waiting ∨ r.state = .active ∨ r.state = .resting))) →
      t.permit j = some (s.unreferenced gone (Permit.raised { r with
        cycles := 0, renewalAge := 0, blockedAge := 0, state := .waiting, remaining := r.wait } .triggered))) ∧
    (r.gate = none → r.wait = 0 → r.retrigger = .restart → r.state = .active →
      t.permit j = some (s.unreferenced gone (Permit.raised { r with
        remaining := r.hold, cycles := if r.shape.isTrain then 1 else 0, renewalAge := 0, blockedAge := 0 } .triggered))) ∧
    (r.gate = none → r.wait = 0 →
      ((r.state = .armed ∧ s.quenched = false) ∨ (r.retrigger = .restart ∧ (r.state = .waiting ∨ r.state = .resting))) →
      (s.groupedLine r.lines = none → t.permit j = some (s.unreferenced gone (Permit.raised { r with
        state := .active, remaining := r.hold, cycles := if r.shape.isTrain then 1 else 0, renewalAge := 0
        blockedAge := 0 } .triggered))) ∧
      ∀ g l, s.ExclusionLaw → s.BlockedLaw → s.QueueLaw → s.groupedLine r.lines = some (g, l) →
        ∃ r', t.permit j = some r' ∧
          ((r'.state = .active ∧ r'.remaining = r.hold ∧ (t.group g).state = .held l) ∨
            (r'.state = .blocked ∧ s.handle j ∈ (t.group g).queue)))

/-- What the abnormal ends of some permits do to the others (R63, R64, R94, R107, R114). A successor with an owner in ARMING or ARMED ends
UPSTREAM where its predecessor is one of those that end or itself ended UPSTREAM, and so down the chain; one whose predecessor is
none of those, or stood as it was, is as it was, and so is one without a predecessor. Every other permit with an owner stays, and
where orphans are running every other orphan too; a BLOCKED one may be granted its group by a release. EMPTY slots stay EMPTY. -/
structure State.EndsLeave (s t : State) (ends : SlotId → Bool) : Prop where
  upstream : ∀ (i j : SlotId) (q r : Permit), s.permit i = some q → s.permit j = some r → ends j = false → r.owner ≠ none →
    r.state.awaitingTrigger = true → s.follows i r →
    (ends i = true ∨ (q.state.awaitingTrigger = true ∧ q.owner ≠ none ∧ s.EndsAs t i q .upstream)) → s.EndsAs t j r .upstream
  waiting : ∀ (j : SlotId) (r : Permit), s.permit j = some r → ends j = false → r.owner ≠ none → r.state.awaitingTrigger = true →
    (∀ (i : SlotId) (q : Permit), s.permit i = some q → s.follows i r →
      ends i = false ∧ (q.state.awaitingTrigger = true → t.slot i = s.slot i)) → t.slot j = s.slot j
  others : ∀ (j : SlotId) (r : Permit), s.permit j = some r → ends j = false → r.state.awaitingTrigger = false →
    (r.owner ≠ none ∨ s.OrphanLaw) → s.Stays t (s.orphansOf ends) j r
  empty : ∀ j : SlotId, s.permit j = none → t.slot j = s.slot j

/-- P0's list as a lock of a line places its entry (R109, R137): while P0's session is OPEN an entry of the line that is there records
the cause in its place, and otherwise the entry joins the tail; on a CLOSED port nothing is placed. -/
def PortUnit.listWithLock (u : PortUnit) (l : LineId) (c : LockCause) : List Entry :=
  if u.isOpen = false then u.attention
  else if u.attention.any (Entry.isLine l) then u.attention.map fun e => if e.isLine l then .line l c else e
  else u.attention ++ [.line l c]

/-- The head of a group's queue as a release with a gap of 0 grants it the group (R94, R96): HELD by its line, which is asserted,
the head ACTIVE with its hold loaded and, with the owner it had, GRANTED raised. -/
def State.GrantsHead (s t : State) (g : GroupId) (h : Handle) : Prop :=
  ∃ (r r' : Permit) (m : LineId), s.resolve h = some r ∧ s.memberLine g r = some m ∧ (t.group g).state = .held m ∧
    (t.line m).asserted = true ∧ h ∉ (t.group g).queue ∧ t.permit h.slot = some r' ∧ r'.state = .active ∧
    r'.remaining = r.hold ∧ (r.owner ≠ none → r'.owner = r.owner → r' = r.granted)

/-- What a happening that takes permits off their claims and out of their queues, and makes no activation request, leaves of a
group (R94, R98, R99). The queue loses those permits and keeps the order of the others. A group HELD by a line that a remaining
ACTIVE permit names stays HELD; with the last claim gone it is in GAP with its whole gap, or with a gap of 0 FREE, or granted to
the head of what is left of its queue. -/
def State.GroupTakes (s t : State) (leaves : SlotId → Bool) (g : GroupId) : Prop :=
  ((∀ l, (s.group g).state ≠ .held l) →
    t.group g = { s.group g with queue := (s.group g).queue.filter fun h => !leaves h.slot }) ∧
  ∀ (l : LineId) (left : List Handle) (claims : Nat), (s.group g).state = .held l →
    left = ((s.group g).queue.filter fun h => !leaves h.slot) →
    claims = ((s.claimants l).filter fun j => !leaves j).length →
    (0 < claims → t.group g = { s.group g with queue := left } ∧ (t.line l).claims = claims) ∧
    (claims = 0 → 0 < (s.group g).gap →
      t.group g = { s.group g with state := .gap (s.group g).gap, queue := left } ∧ (t.line l).claims = 0) ∧
    (claims = 0 → (s.group g).gap = 0 → left = [] →
      t.group g = { s.group g with state := .free, queue := [] } ∧ (t.line l).claims = 0) ∧
    (claims = 0 → (s.group g).gap = 0 → ∀ h rest, left = h :: rest → s.GrantsHead t g h)

/-- What the normal end of the permit in a slot leaves of a group (R61, R62, R94): the release, where no successor of it is in
service; and with successors too, a gap above 0 that the end of the last claimant starts. -/
def State.GroupTakesNormalEnd (s t : State) (i : SlotId) (q : Permit) (g : GroupId) : Prop :=
  ((∀ j : SlotId, ∀ r ∈ s.permit j, r.trigger = .chain (some (s.handle i)) → r.state.inService = false) →
    s.GroupTakes t (fun j => j = i) g) ∧
  ∀ l : LineId, (s.group g).state = .held l → q.state = .active → q.names l = true → (s.line l).claims = 1 → 0 < (s.group g).gap →
    (t.group g).state = .gap (s.group g).gap ∧ (t.line l).claims = 0 ∧ (t.line l).asserted = false

/-- What a teardown of a port's session does to the table (R150, R151): a running permit of the session with orphan policy
RUN_OUT runs on without owner and without pending notices, every other permit of the session is retired, and every permit of another
session and every orphan stays. Orphans, the new ones too, lose their references to the retired slots and keep the others, and
a BLOCKED permit may be granted its group by the releases of the teardown. The other ports' attention lists keep their entries. -/
def State.SessionLeaves (s t : State) (p : Port) : Prop :=
  (∀ p' : Port, p' ≠ p → t.Appends p' (s.port p').attention) ∧
  ∀ stopped : SlotId → Bool, stopped = (fun j => (s.permit j).any fun r => s.ownedBy p r && !r.outlivesSession) →
  ∀ i : SlotId,
    (s.permit i = none → t.slot i = s.slot i) ∧
    (stopped i = true → t.permit i = none ∧ (t.slot i).gen = (s.slot i).gen + 1) ∧
    ∀ q : Permit, s.permit i = some q → stopped i = false →
      s.Stays t stopped i (if s.ownedBy p q then { q with owner := none, pending := {} } else q)

/-- The state in which a happening leaves a group that was HELD, when it has left the group no claim and no queue (R94, R99):
GAP with the whole gap, or FREE where the gap is 0. A group in another state stays in it. -/
def Group.released (x : Group) : GroupState :=
  match x.state with
  | .free => .free
  | .held _ => if x.gap = 0 then .free else .gap x.gap
  | .gap r => .gap r

/-- What the onset of quench leaves (R114), whatever brought it about: every running permit ended QUENCHED, every successor of an
ended permit in ARMING or ARMED ended UPSTREAM, down the chain, every other permit as it was; the quench entry placed on P0's list, and
every other setting, condition, session, quota and holder as it was; and, in a state that keeps the part's laws, every queue empty and
every HELD group released. -/
structure State.OnsetTakes (s t : State) : Prop where
  settles : s.Settles t
  moves : State.Moves { s with quenchLow := t.quenchLow, latch := t.latch } t
  running : ∀ (i : SlotId) (q : Permit), s.permit i = some q → q.state.running = true → s.EndsAs t i q .quenched
  ends : s.EndsLeave t fun i => (s.permit i).any fun q => q.state.running
  lists : ∀ p : Port, t.Appends p ((s.port p).attention ++
    if p = 0 ∧ (s.port 0).isOpen = true ∧ Entry.quench ∉ (s.port 0).attention then [.quench] else [])
  queues : s.QueueLaw → ∀ g : GroupId, (t.group g).queue = []
  groups : s.ExclusionLaw → s.QueueLaw → ∀ g : GroupId, (t.group g).state = (s.group g).released

/-- A tick of its timebase is due at the permit in a slot, and is taken (R121). -/
def State.tickTaken (s : State) (i : SlotId) : State := { s with due := s.due.erase (.permitTick (s.handle i)) }

/-- The end of an execution (R163): the response stored, the holder DONE, the port the last served; and one draw of the
model's own counter. Nothing else. -/
def State.answered (s : State) (p : Port) (f : Frame) (status : Status) (data : List Byte) : State :=
  { s.setPort p
      { s.port p with
        stored := { seq := some f.seq, code := f.code, status := status, data := data }, holder := .done } with
    lastServed := p, freeCount := s.freeCount + 1 }

end Sys2Proof.Machine
end

