-- ==== Sys2Proof/Certificates/Slice0/Obligations.lean ====
section
/-! DEFINITION. The statements for the provers. Each docstring names the rules of spec/ that its statement rests on, and
says where a clause is the model's own choice. -/

open Sys2Proof Sys2Proof.Machine

/-! ### The step, reset, and the port units (chapter 10) -/

/-- One step takes the command at the front of the queue and executes it with the queue's rest. The second clause, that an
empty queue idles, is the model's choice (notes/assumptions/8.md). -/
def Obligations.StepRunsFrontCommand : Prop :=
  ∀ (c : Instr) (rest : List Instr) (s : State),
    step { s with pending := c :: rest } = exec c { s with pending := rest } ∧
      step { s with pending := [] } = .next { s with pending := [] }

/-- Every command is taken in every state: it answers a next state, and leaves the queue of commands alone. The model's choice,
where the command's happening cannot occur in the state (notes/assumptions/5.md) or no run reaches the state
(notes/assumptions/16.md): the manual speaks of a happening only where it occurs. What each command does is said by the
statements that name it. -/
def Obligations.EveryCommandCompletes : Prop :=
  ∀ (c : Instr) (s : State), ∃ t, exec c s = .next t ∧ t.pending = s.pending

/-- RESET puts every item at its reset value (R1, R83, R88, R112, R118, R128, R136, R146, R161, R163) and RESET_RELEASE takes up
the quench condition from the level of QUENCH_N (R112). The model's own clauses: RESET leaves the queue of commands alone
(notes/assumptions/3.md), and a RESET_RELEASE with RESET_N already high leaves the state as it is (notes/assumptions/5.md). -/
def Obligations.ResetAndRelease : Prop :=
  ∀ (s : State),
    (∃ t, exec .reset s = .next t ∧ t.resetLow = true ∧ t.latch = false ∧ t.due = [] ∧ t.lastServed = 2 ∧ t.pending = s.pending ∧
      (∀ i : SlotId, t.permit i = none ∧ (t.slot i).gen = 0) ∧
      (∀ l : LineId, (t.line l).pin = false ∧ t.line l =
        { polarity := .activeHigh, senseOn := false, tolerance := 1, checkTimebase := 0, sensePolarity := .same, claims := 0,
          asserted := false, condition := .normal, mismatch := 0 }) ∧
      (∀ g : GroupId, t.group g = { members := 0, gap := 0, timebase := 0, state := .free, queue := [] }) ∧
      (∀ k : TimebaseId, t.timebase k =
        { source := .refclk, divisor := 1, pendingDivisor := none, running := false, count := 1 }) ∧
      (∀ n : InputId, t.input n =
        { depth := 1, divider := .by1, phase := 1, level := false, agreement := 0, sampled := false }) ∧
      ∀ p : Port, (t.port p).isOpen = false ∧ (t.port p).session = 0 ∧ (t.port p).owned = 0 ∧ (t.port p).quota = 16 ∧
        (t.port p).attention = [] ∧ (t.port p).intLow = false ∧ (t.port p).holder = .vacant ∧ (t.port p).lastSeq = none ∧
        (t.port p).stored = { seq := none, code := 0, status := .ok, data := [] } ∧ ∀ n, (t.port p).sdo n = none) ∧
    ∀ low : Bool,
      (s.resetLow = true → exec (.resetRelease low) s = .next { s with resetLow := false, quenchLow := low } ∧
        (s.latch = false → State.quenched { s with resetLow := false, quenchLow := low } = low)) ∧
      (s.resetLow = false → exec (.resetRelease low) s = .next s)

/-- While RESET_N is low nothing happens at the part but reset and its release. The manual says so of the ports and the engine
(R156), of the lines (R83), and of quench, timebases and inputs by what stands after RESET_N has gone high (R112, R118, R128);
that ticks, samples, edges and changes of QUENCH_N leave the state as it is meanwhile is the model's choice
(notes/assumptions/3.md, notes/assumptions/5.md). -/
def Obligations.NothingHappensInReset : Prop :=
  ∀ (c : Instr) (s : State), s.resetLow = true → c ≠ .reset → (∀ low, c ≠ .resetRelease low) → exec c s = .next s

/-- At the fall of chip select the port fixes the response frame with the attention count as it stands, and from then SDO carries
that frame, and bytes of value 0 after its last byte, each byte most significant bit first, one bit from the fall of chip select and
after each falling edge of the clock the next (R156, R166). The draw of the nibble that stands for an absent sequence number
is the model's own (notes/assumptions/2.md). -/
def Obligations.TransactionStartFixesResponse : Prop :=
  ∀ (s : State) (p : Port) (r : Response), s.resetLow = false → (s.port p).transaction = none →
    r = (match (s.port p).holder with
      | .pending f => { seq := some f.seq, code := f.code, status := .notReady, data := [] }
      | .vacant => (s.port p).stored
      | .done => (s.port p).stored) →
    ∃ (free : Seq) (u : State), exec (.transactionStart p) s = .next u ∧
      u = State.drawn (s.setPort p
        { s.port p with
          transaction := some { response := r, attention := (s.port p).attention.length, free := free } }) ∧
      ∀ (n : Nat) (b : Byte), b = (responseFrame free r (s.port p).attention.length)[n]?.getD 0 →
        (u.port p).sdo n = some b ∧ ∀ k : Nat, k < 8 → (u.port p).sdoBit (8 * n + k) = some (b.getLsbD (7 - k))

/-- At the rise of chip select the port judges the received frame: the frame check, NOP, the NOT_READY discard, the repeat,
and otherwise the request is PENDING (R158 to R161). The frame is the whole bytes of the bits sampled on SDI, eight to a byte, most
significant bit first; the bits after the last whole byte are discarded, and fewer than 8 bits are a break (R156). -/
def Obligations.RequestFrameIsJudged : Prop :=
  ∀ (s : State) (p : Port) (x : ShiftOut), s.resetLow = false → (s.port p).transaction = some x →
    (∀ (bytes : List Byte) (bits discarded : List Bool), bytes ≠ [] → discarded.length < 8 →
      bits = (bytes.flatMap fun b => [b.getLsbD 7, b.getLsbD 6, b.getLsbD 5, b.getLsbD 4, b.getLsbD 3, b.getLsbD 2, b.getLsbD 1,
        b.getLsbD 0]) ++ discarded →
      exec (.requestFrame p bits) s = .next (s.setPort p
        (match parseFrame bytes with
          | none =>
            { s.port p with
              transaction := none, stored := { seq := (s.port p).lastSeq, code := 0xFF, status := .badFrame, data := [] } }
          | some f =>
            if f.code = 0 ∨ x.response.status = .notReady ∨ ((s.port p).lastSeq = some f.seq ∧ (s.port p).holder = .done) then
              { s.port p with transaction := none }
            else { s.port p with transaction := none, holder := .pending f, lastSeq := some f.seq }))) ∧
    ∀ bits : List Bool, bits.length < 8 → exec (.requestFrame p bits) s = exec (.breakPort p) s

/-- A break tears down an open session, retiring its permits or leaving them to run on as orphans (R147, R150, R151), vacates the
holder and drops the last sequence number and the stored response; the quota, the session number, the latch and the other ports
stand (R162). Every setting and condition of lines, groups, timebases and inputs stands (R147), and the other ports' lists keep their
entries, those of granted permits appended. -/
def Obligations.BreakResetsPort : Prop :=
  ∀ (s : State) (p : Port) (x : ShiftOut), s.OwnerLaw → s.resetLow = false → (s.port p).transaction = some x →
    ∃ t, exec (.breakPort p) s = .next t ∧ s.Settles t ∧
      State.Moves (s.setPort p
        { s.port p with
          isOpen := false, holder := .vacant, lastSeq := none, transaction := none
          stored := { seq := none, code := 0, status := .ok, data := [] } }) t ∧
      (t.port p).isOpen = false ∧ (t.port p).holder = .vacant ∧ (t.port p).lastSeq = none ∧
      (t.port p).stored = { seq := none, code := 0, status := .ok, data := [] } ∧ (t.port p).transaction = none ∧
      (t.port p).quota = (s.port p).quota ∧ (t.port p).session = (s.port p).session ∧
      (∀ p', p' ≠ p → t.port p' = { s.port p' with attention := (t.port p').attention }) ∧
      ((s.port p).isOpen = true → (t.port p).attention = [] ∧ (t.port p).owned = 0 ∧ s.SessionLeaves t p ∧
          ∀ i : SlotId, ∀ q ∈ t.permit i, q.owner ≠ some { port := p, session := (s.port p).session }) ∧
      ((s.port p).isOpen = false →
        t.slots = s.slots ∧ t.groups = s.groups ∧ (∀ p', (t.port p').attention = (s.port p').attention) ∧
          (t.port p).owned = (s.port p).owned)

/-- The frame check passes exactly the frames that R167 lays out with the CRC of R157, followed by padding (R156, R158,
R167). -/
def Obligations.ParsedFramesAreEncodedFrames : Prop :=
  ∀ (bytes : List Byte) (f : Frame),
    parseFrame bytes = some f ↔ f.fields.length ≤ 59 ∧ ∃ padding, bytes = encodeFrame f ++ padding

/-- Every request, with every operand at every value its bytes admit, comes back from its request frame (R167, R169, R170). The
place of an ACK's line number is the model's reading (notes/assumptions/14.md). -/
def Obligations.RequestsDecodeAsEncoded : Prop :=
  ∀ (seq : Seq) (r : Request) (padding : List Byte),
    parseFrame (encodeRequest seq r ++ padding) = some { seq := seq, code := r.code, fields := r.fields } ∧
      decodeRequest r.code r.fields = .ok r

/-- A held request is refused BAD_REQUEST exactly when no request of the catalogue has its code and its length, and BAD_FIELD
exactly when it is an ACK of no known target kind (R164, R170). Code 00 at its length, NOP, is in the catalogue and no Request of
the model, since no port holds one; that a held one would be refused BAD_REQUEST is the model's reading (notes/assumptions/17.md). -/
def Obligations.DecodingRefusesByName : Prop :=
  ∀ (code : Byte) (fields : List Byte),
    (decodeRequest code fields = .error .badRequest ↔
      ∀ r : Request, r.code = code → r.fields.length ≠ fields.length) ∧
    (decodeRequest code fields = .error .badField ↔
      code = 0x1A ∧ fields.length = 4 ∧ ∀ k ∈ fields.head?, k ≠ 1 ∧ k ≠ 2 ∧ k ≠ 3) ∧
    ∀ st, decodeRequest code fields = .error st → st = .badRequest ∨ st = .badField

/-- The layout of a response frame (R168) with the value of every status (R173), and the bytes on SDO in a transaction: that frame, then
bytes of value 0 (R156). The nibble free stands where the manual states no sequence number (notes/assumptions/2.md). -/
def Obligations.ResponseFrameLayout : Prop :=
  (∀ (free : Seq) (r : Response) (n : Nat), r.data.length ≤ 121 → n ≤ 65 →
    ∃ lo hi : Byte,
      responseFrame free r n =
        [BitVec.ofNat 8 (r.data.length + 7), controlByte free r.seq, r.code, statusByte r.status, BitVec.ofNat 8 n] ++ r.data ++
          [lo, hi] ∧
      (responseFrame free r n).length = r.data.length + 7 ∧
      7 ≤ ((responseFrame free r n).headD 0).toNat ∧ ((responseFrame free r n).headD 0).toNat ≤ 128 ∧
      ((responseFrame free r n).headD 0).toNat = (responseFrame free r n).length ∧
      word lo hi = crc16 ((responseFrame free r n).take (r.data.length + 5)) ∧
      (∀ q ∈ r.seq, ∀ k : Fin 4, (controlByte free r.seq).getLsbD k.val = q.getLsbD k.val) ∧
      (controlByte free r.seq).getLsbD 4 = r.seq.isSome ∧
      ∀ k : Nat, 5 ≤ k → (controlByte free r.seq).getLsbD k = false) ∧
  (∀ st : Status, statusByte st =
    match st with
    | .ok => 0x00
    | .notReady => 0x01
    | .badFrame => 0x02
    | .badRequest => 0x03
    | .badField => 0x04
    | .noSession => 0x05
    | .notOwner => 0x06
    | .notPermitted => 0x07
    | .staleHandle => 0x08
    | .wrongState => 0x09
    | .tableFull => 0x0A
    | .quotaExceeded => 0x0B
    | .groupConflict => 0x0C
    | .lineLocked => 0x0D
    | .referenced => 0x0E
    | .inUse => 0x0F
    | .quenched => 0x10
    | .timebaseStopped => 0x11
    | .tooEarly => 0x12) ∧
  Response.idle.code = 0 ∧ (∀ u : PortUnit, u.badFrame.code = 0xFF) ∧
  ∀ (u : PortUnit) (x : ShiftOut) (n : Nat), u.transaction = some x →
    (n < (responseFrame x.free x.response x.attention).length →
      u.sdo n = (responseFrame x.free x.response x.attention)[n]?) ∧
    ((responseFrame x.free x.response x.attention).length ≤ n → u.sdo n = some 0)

/-! ### The request engine and its checks (R163, R164, R3) -/

/-- The engine takes the first PENDING request it finds in turn, beginning with the port after the last one served (R163). That
it chooses at the execution, among the holders PENDING by then, is the model's choice (notes/assumptions/20.md). -/
def Obligations.EngineServesInTurn : Prop :=
  ∀ (s : State) (p : Port) (f : Frame),
    s.nextRequest = some (p, f) ↔
      (s.port p).holder = .pending f ∧
        ∃ k : Fin 3, p = s.lastServed + 1 + k ∧
          ∀ j : Fin 3, j < k → ∀ f', (s.port (s.lastServed + 1 + j)).holder ≠ .pending f'

/-- A request that decoding refuses is executed by UNKNOWN_REQUEST, which stores the status with no data and writes nothing
else (R164). That an ACK of no known target kind comes under this row is the model's reading (notes/assumptions/6.md). -/
def Obligations.UnknownRequestIsAnswered : Prop :=
  ∀ (s : State) (p : Port) (f : Frame) (st : Status), s.LevelLaw → s.resetLow = false → s.nextRequest = some (p, f) →
    decodeRequest f.code f.fields = .error st → exec .unknownRequest s = .next (s.answered p f st [])

/-- Every request that names a permit by handle makes the handle checks in the order of R3; the first that fails ends the
request with its status, and nothing else is written. -/
def Obligations.HandleChecksInOrder : Prop :=
  ∀ (s : State) (p : Port) (f : Frame) (h : RawHandle) (r : Request) (st : Status), s.LevelLaw → s.Turn p f r →
    (r = .arm h ∨ r = .fire h ∨ r = .renew h ∨ r = .release h ∨ (∃ a : AmendFields, a.handle = h ∧ r = .amend a) ∨
      r = .retire h ∨ r = .query h ∨ (∃ kinds, r = .ackPermit h kinds) ∨ r = .revoke h) →
    firstFailure
      [(decide (r = .revoke h → p = 0), .notPermitted), ((s.port p).isOpen, .noSession), (decide (h.slot.toNat < 48), .badField),
        (allSlots.any fun i => h.slot.toNat = i.val && (s.permit i).isSome && (s.slot i).gen = h.gen, .staleHandle),
        (decide (r = .revoke h) ||
          allSlots.any fun i => h.slot.toNat = i.val && (s.permit i).any (s.ownedBy p), .notOwner)] = some st →
    exec (rowOf r) s = .next (s.answered p f st [])

/-! ### Sessions (chapter 9) -/

/-- OPEN advances the session number, and is refused on an open port (R146); STATUS reports the port and changes nothing
(R145); SET_QUOTA writes the quota when it is in range, not below the owned count and the sum at most 48, and otherwise answers
BAD_FIELD with the quotas unchanged (R149). -/
def Obligations.SessionRequestsAnswer : Prop :=
  ∀ (s : State) (p : Port) (f : Frame), s.LevelLaw →
    (s.Turn p f .openSession → (s.port p).isOpen = false →
      ∀ n : Byte, n = (if (s.port p).session = 255 then 1 else (s.port p).session + 1) →
        exec .openSession s = .next
          ((s.setPort p { s.port p with isOpen := true, session := n, owned := 0, attention := [] }).answered p f .ok
            [n, byteOf (s.port p).quota])) ∧
    (s.Turn p f .openSession → (s.port p).isOpen = true → exec .openSession s = .next (s.answered p f .wrongState [])) ∧
    (s.Turn p f .status →
      exec .status s = .next (s.answered p f .ok
        [if (s.port p).isOpen then 1 else 0, (s.port p).session, byteOf (s.port p).owned, byteOf (s.port p).quota,
          byteOf (s.port p).attention.length])) ∧
    ∀ (a b : Byte) (q : Port), s.Turn p f (.setQuota a b) → s.Supervisor p → a.toNat = q.val →
      ((b.toNat ≤ 48 ∧ (s.port q).owned ≤ b.toNat ∧ b.toNat + (s.port (q + 1)).quota + (s.port (q + 2)).quota ≤ 48) →
        exec .setQuota s = .next
          ((s.setPort q { s.port q with quota := b.toNat }).answered p f .ok
            ([0, 1, 2].map fun k : Port => if k = q then b else byteOf (s.port k).quota))) ∧
      (¬(b.toNat ≤ 48 ∧ (s.port q).owned ≤ b.toNat ∧ b.toNat + (s.port (q + 1)).quota + (s.port (q + 2)).quota ≤ 48) →
        exec .setQuota s = .next (s.answered p f .badField ([0, 1, 2].map fun k : Port => byteOf (s.port k).quota)))

/-- CLOSE tears the session down (R147, R150, R151): a running permit with orphan policy RUN_OUT runs on without owner and
without pending notices, every other permit of the session is retired, and the port is CLOSED with nothing owned and an empty
list. Orphans lose their references to the retired permits and keep the others, and every permit of another session and every orphan stays,
but that a BLOCKED one may be granted its group (State.SessionLeaves). Every setting and condition of lines, groups, timebases and inputs
stands, and the other ports' lists keep their entries. On a CLOSED port it is refused NO_SESSION. -/
def Obligations.CloseTearsDownSession : Prop :=
  ∀ (s : State) (p : Port) (f : Frame), s.OwnerLaw → s.Turn p f .closeSession →
    ((s.port p).isOpen = true →
      ∃ u : State, exec .closeSession s = .next (u.answered p f .ok
          [byteOf (s.slotsWith fun q => s.ownedBy p q && !q.outlivesSession).length,
            byteOf (s.slotsWith fun q => s.ownedBy p q && q.outlivesSession).length]) ∧
        s.Settles u ∧ State.Moves (s.setPort p { s.port p with isOpen := false }) u ∧
        u.port p = { s.port p with isOpen := false, owned := 0, attention := [] } ∧
        (∀ p', p' ≠ p → u.port p' = { s.port p' with attention := (u.port p').attention }) ∧ s.SessionLeaves u p) ∧
    ((s.port p).isOpen = false → s.LevelLaw → exec .closeSession s = .next (s.answered p f .noSession []))

/-- CLEAR_TABLE retires every permit (R154, R155): every slot is EMPTY, an occupied one in its next generation, and the settings and
conditions of lines, the settings of groups, timebases, inputs, quench and sessions stand. In a state that keeps the part's laws every
claim count and every owned count is 0, every attention list has lost its permit entries and kept the others, every queue is empty,
and a HELD group is in GAP with its whole gap, or FREE where its gap is 0. -/
def Obligations.ClearTableEmptiesTable : Prop :=
  ∀ (s : State) (p : Port) (f : Frame), s.Turn p f .clearTable → s.Supervisor p →
    ∃ u : State, exec .clearTable s = .next (u.answered p f .ok [byteOf (s.slotsWith fun _ => true).length]) ∧
      s.Moves u ∧ s.Settles u ∧
      (∀ i : SlotId, u.permit i = none ∧ (u.slot i).gen = if (s.permit i).isSome then (s.slot i).gen + 1 else (s.slot i).gen) ∧
      (s.ClaimLaw → ∀ l : LineId, (u.line l).claims = 0 ∧ (u.line l).asserted = false) ∧
      (s.OwnerLaw → s.CountLaw → ∀ p : Port, (u.port p).owned = 0) ∧
      (s.OwnerLaw → s.ListLaw → ∀ p : Port,
        (u.port p).attention = (s.port p).attention.filter fun e => e.isQuench || allLines.any fun l => e.isLine l) ∧
      (s.QueueLaw → ∀ g : GroupId, (u.group g).queue = []) ∧
      (s.ExclusionLaw → s.QueueLaw → ∀ g : GroupId, (u.group g).state = (s.group g).released)

/-! ### The permit table (chapter 1) -/

/-- A CREATE that passes its checks takes the lowest-numbered EMPTY slot, its generation unchanged, and raises the port's owned
count (R15). -/
def Obligations.CreateTakesLowestEmptySlot : Prop :=
  ∀ (s : State) (p : Port) (f : Frame) (c : CreateFields) (i : SlotId) (q : Permit), s.LevelLaw → s.Turn p f (.create c) →
    (s.port p).isOpen = true → s.permit i = none → (∀ j : SlotId, j < i → (s.permit j).isSome = true) →
    (s.port p).owned < (s.port p).quota → createRecord { port := p, session := (s.port p).session } c = some q →
    s.groupedCount c.lines ≤ 1 →
    (∀ h, q.trigger = .chain (some h) → ∃ r, s.resolve h = some r ∧ s.ownedBy p r = true) →
    (∀ h, q.gate = some h → ∃ r, s.resolve h = some r ∧ s.ownedBy p r = true) →
    exec .create s = .next
      (((s.setSlot i { gen := (s.slot i).gen, permit := some q }).setPort p
        { s.port p with owned := (s.port p).owned + 1 }).answered p f .ok [byteOf i.val, (s.slot i).gen])

/-- The record that CREATE makes holds the fields as requested, with the values of R8 and R9 for those it does not carry (R12,
R15), and exists exactly when the fields that apply are in range. The input and edge byte is read by R169; that its bits 3, 6 and 7
must be 0 is the model's reading (notes/assumptions/4.md). -/
def Obligations.CreateRecordHoldsRequest : Prop :=
  ∀ (o : Owner) (c : CreateFields),
    (∀ q, createRecord o c = some q →
      q.owner = some o ∧ q.lines = c.lines ∧ c.lines ≠ 0 ∧ q.timebase.val = c.timebase.toNat ∧ q.wait = c.wait.toNat ∧
        q.hold = c.hold.toNat ∧ 1 ≤ q.hold ∧ q.blockLimit = (if c.blockLimit = 0 then none else some c.blockLimit.toNat) ∧
        q.mask = noticesOf c.mask ∧ q.mask.ended = false ∧ q.retrigger = .ignore ∧ q.orphan = .endRun ∧ q.state = .idle ∧
        q.remaining = 0 ∧ q.cycles = 0 ∧ q.renewalAge = 0 ∧ q.blockedAge = 0 ∧ q.endReason = none ∧ q.pending = {} ∧
        (c.shape = 0 → q.shape = .pulse) ∧
        (c.shape = 1 → q.shape = .train c.rest.toNat c.repeats.toNat ∧ c.rest ≠ 0) ∧
        (c.shape = 2 → ∃ src, renewalOf c.renewal c.renewalInput = some src ∧ q.shape = .lease src c.minInterval.toNat) ∧
        (c.trigKind = 0 → q.trigger = .soft) ∧
        (c.trigKind = 1 → ∃ n e, inputEdgeOf c.trigInput = some (n, e) ∧ q.trigger = .input n e) ∧
        (c.trigKind = 2 → ∃ h : Handle, h.slot.val = c.pred.slot.toNat ∧ h.gen = c.pred.gen ∧ q.trigger = .chain (some h)) ∧
        (c.gatePresent = 0 → q.gate = none) ∧
        (c.gatePresent = 1 → ∃ h : Handle, h.slot.val = c.gate.slot.toNat ∧ h.gen = c.gate.gen ∧ q.gate = some h)) ∧
    (createRecord o c = none ↔
      2 < c.shape.toNat ∨ c.lines = 0 ∨ 3 < c.timebase.toNat ∨ 2 < c.trigKind.toNat ∨
        (c.trigKind = 1 ∧ inputEdgeOf c.trigInput = none) ∨ (c.trigKind = 2 ∧ 47 < c.pred.slot.toNat) ∨
        1 < c.gatePresent.toNat ∨ (c.gatePresent = 1 ∧ 47 < c.gate.slot.toNat) ∨
        (c.shape = 2 ∧ c.renewal ≠ 1 ∧ c.renewal ≠ 2) ∨ (c.shape = 2 ∧ c.renewal = 2 ∧ inputEdgeOf c.renewalInput = none) ∨
        c.hold = 0 ∨ (c.shape = 1 ∧ c.rest = 0) ∨ 15 < c.mask.toNat) ∧
    (∀ (b : Byte) (n : InputId) (e : Edge), inputEdgeOf b = some (n, e) ↔
      b.toNat = n.val + 16 * (match e with | .rise => 1 | .fall => 2 | .both => 3)) ∧
    ∀ src, renewalOf c.renewal c.renewalInput = some src ↔
      (c.renewal = 1 ∧ src = .port) ∨
        (c.renewal = 2 ∧ ∃ n e, inputEdgeOf c.renewalInput = some (n, e) ∧ src = .input n e)

/-- CREATE makes its checks in the order of R10; the first that fails gives the status, and a refused CREATE changes nothing
else. -/
def Obligations.CreateChecksInOrder : Prop :=
  ∀ (s : State) (p : Port) (f : Frame) (c : CreateFields) (st : Status), s.LevelLaw → s.Turn p f (.create c) →
    firstFailure
      [((s.port p).isOpen, .noSession), (allSlots.any fun i => (s.permit i).isNone, .tableFull),
        (decide ((s.port p).owned < (s.port p).quota), .quotaExceeded),
        ((createRecord { port := p, session := (s.port p).session } c).isSome, .badField),
        (decide (s.groupedCount c.lines ≤ 1), .groupConflict),
        (c.trigKind ≠ 2 || ((handleOf c.pred).bind s.resolve).isSome, .staleHandle),
        (c.trigKind ≠ 2 || ((handleOf c.pred).bind s.resolve).any (s.ownedBy p), .notOwner),
        (c.gatePresent ≠ 1 || ((handleOf c.gate).bind s.resolve).isSome, .staleHandle),
        (c.gatePresent ≠ 1 || ((handleOf c.gate).bind s.resolve).any (s.ownedBy p), .notOwner)] = some st →
    exec .create s = .next (s.answered p f st [])

/-- RETIRE of an IDLE or ENDED permit that no other permit of the session references (R2, R19, R20): the slot is EMPTY in its next
generation, the owned count falls, the entry leaves the list, orphans lose their references, and nothing else changes. That
retirement takes the ticks and edges due at the permit with it is the model's choice (notes/assumptions/9.md). -/
def Obligations.RetireFreesSlot : Prop :=
  ∀ (s : State) (p : Port) (f : Frame) (h : RawHandle) (i : SlotId) (q : Permit), s.LevelLaw → s.Turn p f (.retire h) →
    s.Passes p h i q → (q.state = .idle ∨ q.state = .ended) →
    (∀ (j : SlotId) (r : Permit), j ≠ i → s.permit j = some r → s.ownedBy p r = true →
      r.trigger ≠ .chain (some (s.handle i)) ∧ r.gate ≠ some (s.handle i)) →
    ∃ u : State, exec .retire s = .next (u.answered p f .ok []) ∧ s.Moves u ∧ u.lines = s.lines ∧ u.groups = s.groups ∧
      u.freeCount = s.freeCount ∧ u.due = s.due.filter (fun d => !d.isFor (s.handle i)) ∧
      u.permit i = none ∧ (u.slot i).gen = (s.slot i).gen + 1 ∧
      (∀ j : SlotId, j ≠ i → (u.slot j).gen = (s.slot j).gen ∧
        u.permit j = (s.permit j).map fun r =>
          if r.owner = none then
            { r with
              trigger := if r.trigger = .chain (some (s.handle i)) then .chain none else r.trigger
              gate := if r.gate = some (s.handle i) then none else r.gate }
          else r) ∧
      u.port p =
        { s.port p with
          owned := (s.port p).owned - 1, attention := (s.port p).attention.filter (· ≠ .permit (s.handle i)) } ∧
      ∀ p', p' ≠ p → u.port p' = s.port p'

/-- QUERY, LIST and READ_LINES answer and change nothing (R17, R18, R102): QUERY the record of the permit, LIST the first twelve
slots from its start that show on the port, each as handle, state and owner (R170; the second byte of an owner of none is free,
notes/assumptions/2.md), READ_LINES on any port, with or without a session. LIST is refused NO_SESSION on a CLOSED port and then
BAD_FIELD for a start above 47. -/
def Obligations.ReportsChangeNothing : Prop :=
  ∀ (s : State) (p : Port) (f : Frame), s.LevelLaw →
    (∀ h i q, s.Turn p f (.query h) → s.Passes p h i q →
      exec .query s = .next (s.answered p f .ok (q.report s.freeCount (s.handle i)))) ∧
    (∀ (start : Byte) (page : List SlotId), s.Turn p f (.listTable start) → (s.port p).isOpen = true → start.toNat < 48 →
      page = (allSlots.filter fun i => start.toNat ≤ i.val &&
        (s.permit i).any fun q => p = 0 || q.owner = some { port := p, session := (s.port p).session }).take 12 →
      exec .listTable s = .next (s.answered p f .ok
        ([byteOf page.length, if page.length = 12 then byteOf ((page.getLastD 47).val + 1) else 48] ++
          page.flatMap (s.listEntry s.freeCount)))) ∧
    (∀ (c : Nat) (i : SlotId) (q : Permit), s.permit i = some q → ∃ free : Byte,
      s.listEntry c i = [byteOf i.val, (s.slot i).gen, stateByte q.state] ++
        (match q.owner with
          | some o => [byteOf o.port.val, o.session]
          | none => [0xFF, free])) ∧
    (∀ start : Byte, s.Turn p f (.listTable start) →
      ((s.port p).isOpen = false → exec .listTable s = .next (s.answered p f .noSession [])) ∧
      ((s.port p).isOpen = true → 48 ≤ start.toNat → exec .listTable s = .next (s.answered p f .badField []))) ∧
    (s.Turn p f .readLines → exec .readLines s = .next (s.answered p f .ok (s.linesReport s.freeCount)))

/-- The layout of the permit record in the response to QUERY (R171), and the encodings of its fields and of every other response field
of the same kind (R169): numbers, counts, sets of lines, states, end reasons, notice sets, and input and edge. That the bits which no
rule names (of the presence byte, of an input and edge, of a notice set) are 0 is the model's reading (notes/assumptions/4.md), and that
a CHAIN permit without a predecessor, which no run gives an owner, reports the handle as 0 its choice (notes/assumptions/16.md). -/
def Obligations.PermitRecordLayout : Prop :=
  (∀ st : PState, stateByte st =
    match st with
    | .idle => 1
    | .arming => 2
    | .armed => 3
    | .waiting => 4
    | .blocked => 5
    | .active => 6
    | .resting => 7
    | .ended => 8) ∧
  (∀ r : EndReason, reasonByte none = 0 ∧ reasonByte (some r) =
    match r with
    | .completed => 1
    | .released => 2
    | .revoked => 3
    | .expired => 4
    | .renewEarly => 5
    | .starved => 6
    | .quenched => 7
    | .lineLocked => 8
    | .upstream => 9) ∧
  (∀ (n : NoticeSet) (k : Nat), (noticesByte n).getLsbD k =
    match k with
    | 0 => n.triggered
    | 1 => n.blocked
    | 2 => n.granted
    | 3 => n.missed
    | 4 => n.ended
    | _ => false) ∧
  (∀ (n : InputId) (e : Edge), (inputEdgeByte n e).toNat = n.val + 16 * (match e with | .rise => 1 | .fall => 2 | .both => 3)) ∧
  (∀ n : Nat, (n < 256 → (byteOf n).toNat = n) ∧ (n ≤ 65536 → ∃ lo hi : Byte, countBytes n = [lo, hi] ∧
    lo.toNat + 256 * hi.toNat = if n = 65536 then 0 else n)) ∧
  (∀ w : Word, (lowByte w).toNat + 256 * (highByte w).toNat = w.toNat) ∧
  ∀ (c : Nat) (h : Handle) (p : Permit) (o : Owner), p.owner = some o →
    (p.report c h).length = 44 ∧
    (p.report c h).take 9 =
      [byteOf h.slot.val, h.gen, byteOf o.port.val, o.session,
        match p.shape with | .pulse => 0 | .train _ _ => 1 | .lease _ _ => 2,
        lowByte p.lines, highByte p.lines, byteOf p.timebase.val,
        match p.trigger with | .soft => 0 | .input _ _ => 1 | .chain _ => 2] ∧
    ((p.report c h).drop 9).take 3 =
      (match p.trigger with
        | .input n e => [inputEdgeByte n e, 0, 0]
        | .chain (some k) => [0, byteOf k.slot.val, k.gen]
        | _ => [0, 0, 0]) ∧
    ((p.report c h).drop 12).take 3 =
      (match p.gate with | none => [0, 0, 0] | some k => [1, byteOf k.slot.val, k.gen]) ∧
    ((p.report c h).drop 15).take 3 =
      (match p.shape with
        | .pulse => [0, 0, 0]
        | .train _ _ => [0, 0, 3]
        | .lease .port _ => [1, 0, 4]
        | .lease (.input n e) _ => [2, inputEdgeByte n e, 4]) ∧
    ((p.report c h).drop 18).take 12 =
      countBytes p.wait ++ countBytes p.hold ++
        (match p.shape with
          | .pulse => [0, 0, 0, 0, 0, 0]
          | .train rest repeats => countBytes rest ++ countBytes repeats ++ [0, 0]
          | .lease _ m => [0, 0, 0, 0] ++ countBytes m) ++
        countBytes (p.blockLimit.getD 0) ∧
    (p.report c h).drop 30 =
      [noticesByte p.mask, if p.retrigger = .ignore then 0 else 1, if p.orphan = .endRun then 0 else 1, stateByte p.state] ++
        (if p.state = .waiting ∨ p.state = .active ∨ p.state = .resting then countBytes p.remaining else [0, 0]) ++
        countBytes p.cycles ++ countBytes p.renewalAge ++ countBytes p.blockedAge ++
        [reasonByte p.endReason, noticesByte p.pending]

/-- The layout of the response data of READ_LINES (R172). The bits and bytes whose item is absent (a holder line that is not HELD,
a remaining gap that is not in GAP) are free. That bits 2 to 7 of byte 89, which no rule names, are 0 is the model's reading
(notes/assumptions/4.md). -/
def Obligations.LinesReportLayout : Prop :=
  ∀ (s : State) (c : Nat),
    (s.linesReport c).length = 90 ∧
    (∀ l : LineId, ∃ flags : Byte,
      ((s.linesReport c).drop (3 * l.val)).take 3 = [flags, byteOf (s.line l).claims, byteOf (s.line l).mismatch] ∧
        flags.getLsbD 0 = (s.line l).asserted ∧ flags.getLsbD 1 = (s.line l).condition.isLocked ∧
        (flags.getLsbD 2 = true ↔ (s.line l).condition = .locked .manual)) ∧
    (∀ g : GroupId, ∃ b gap : Byte,
      ((s.linesReport c).drop (48 + 5 * g.val)).take 5 =
          [lowByte (s.group g).members, highByte (s.group g).members, b, gap, byteOf (s.group g).queue.length] ∧
        (match (s.group g).state with
          | .free => b.toNat % 4 = 0
          | .held l => b.toNat % 4 = 1 ∧ b.toNat / 16 = l.val
          | .gap r => b.toNat % 4 = 2 ∧ gap = byteOf r)) ∧
    (∃ levels : Byte, (s.linesReport c).drop 88 =
        [levels, byteOf ((if s.quenched then 1 else 0) + (if s.latch then 2 else 0))] ∧
      ∀ n : InputId, levels.getLsbD n.val = (s.input n).level)

/-! ### Arming and triggers (chapters 2 and 3) -/

/-- An ARM that passes its checks loads the counters and puts the permit in ARMING; nothing else changes (R24). -/
def Obligations.ArmStartsArming : Prop :=
  ∀ (s : State) (p : Port) (f : Frame) (h : RawHandle) (i : SlotId) (q : Permit), s.LevelLaw → s.Turn p f (.arm h) →
    s.Passes p h i q → (q.state = .idle ∨ q.state = .ended) → s.quenched = false →
    (∀ l : LineId, q.names l = true → (s.line l).condition.isLocked = false) → s.groupedCount q.lines ≤ 1 →
    (s.timebase q.timebase).running = true →
    exec .arm s = .next
      ((s.setPermit i
        { q with
          state := .arming, remaining := 0, cycles := 0, renewalAge := 0, blockedAge := 0, endReason := none }).answered p f
        .ok [])

/-- ARM makes its checks in the order of R23, and so do the other requests that have passed the handle checks: FIRE (R49), RELEASE and
REVOKE (R41, R43), RETIRE (R19), AMEND (R74) and ACK of a permit entry (R141). The first check that fails gives the status, and a refused
request changes nothing else. -/
def Obligations.PermitRequestsCheckInOrder : Prop :=
  ∀ (s : State) (p : Port) (f : Frame) (h : RawHandle) (i : SlotId) (q : Permit) (st : Status), s.LevelLaw →
    (s.Turn p f (.arm h) → s.Passes p h i q →
      firstFailure
        [(decide (q.state = .idle ∨ q.state = .ended), .wrongState), (!s.quenched, .quenched),
          (decide (∀ l : LineId, q.names l = true → (s.line l).condition.isLocked = false), .lineLocked),
          (decide (s.groupedCount q.lines ≤ 1), .groupConflict), ((s.timebase q.timebase).running, .timebaseStopped)] = some st →
      exec .arm s = .next (s.answered p f st [])) ∧
    (s.Turn p f (.fire h) → s.Passes p h i q →
      firstFailure
        [(decide (q.trigger = .soft), .badRequest), (decide (q.state ≠ .idle ∧ q.state ≠ .ended), .wrongState),
          (!s.quenched, .quenched)] = some st →
      exec .fire s = .next (s.answered p f st [])) ∧
    (s.Turn p f (.release h) → s.Passes p h i q → (q.state = .idle ∨ q.state = .ended) →
      exec .release s = .next (s.answered p f .wrongState [])) ∧
    (s.Turn 0 f (.revoke h) → (s.port 0).isOpen = true → s.Names h i q → (q.state = .idle ∨ q.state = .ended) →
      exec .revoke s = .next (s.answered 0 f .wrongState [])) ∧
    (s.Turn p f (.retire h) → s.Passes p h i q →
      firstFailure
        [(decide (q.state = .idle ∨ q.state = .ended), .wrongState),
          (decide (∀ j : SlotId, j ≠ i → ∀ r ∈ s.permit j, s.ownedBy p r = true →
            r.trigger ≠ .chain (some (s.handle i)) ∧ r.gate ≠ some (s.handle i)), .referenced)] = some st →
      exec .retire s = .next (s.answered p f st [])) ∧
    (∀ a : AmendFields, a.handle = h → s.Turn p f (.amend a) → s.Passes p h i q →
      firstFailure
        [(decide (a.fieldMask.toNat < 512), .badRequest),
          (decide ((a.fieldMask.getLsbD 2 = true ∨ a.fieldMask.getLsbD 3 = true → q.shape.isTrain = true) ∧
            (a.fieldMask.getLsbD 4 = true → q.shape.isLease = true)), .badRequest),
          (decide (a.mode.toNat < 2), .badField),
          (decide ((a.fieldMask.getLsbD 1 = true → a.hold ≠ 0) ∧ (a.fieldMask.getLsbD 2 = true → a.rest ≠ 0) ∧
            (a.fieldMask.getLsbD 6 = true → a.mask.toNat < 16) ∧ (a.fieldMask.getLsbD 7 = true → a.retrigger.toNat < 2) ∧
            (a.fieldMask.getLsbD 8 = true → a.orphan.toNat < 2)), .badField)] = some st →
      exec .amend s = .next (s.answered p f st [])) ∧
    ∀ kinds : Byte, s.Turn p f (.ackPermit h kinds) → s.Passes p h i q → 32 ≤ kinds.toNat →
      exec .ackPermitEntry s = .next (s.answered p f .badField [])

/-- FIRE on a SOFT permit in service outside quench delivers one trigger and reports its outcome (R49); INPUT_TRIGGER delivers to
the permit the edge due at it as a trigger (R48). -/
def Obligations.TriggersAreDelivered : Prop :=
  ∀ (s : State) (i : SlotId),
    (∀ (p : Port) (f : Frame) (h : RawHandle) (q : Permit), s.Turn p f (.fire h) → s.Passes p h i q → q.trigger = .soft →
      q.state.inService = true → s.quenched = false →
      exec .fire s = .next ((s.takeTrigger i).2.settleLevels.answered p f .ok
        [match (s.takeTrigger i).1 with | .accepted => 1 | .restarted => 2 | .missed => 3 | .passedBy => 3]) ∧
      (s.takeTrigger i).1 ≠ .passedBy) ∧
    (s.resetLow = false → Due.trigger (s.handle i) ∈ s.due →
      exec (.inputTrigger i) s =
        .next (State.takeTrigger { s with due := s.due.erase (.trigger (s.handle i)) } i).2.settleLevels)

/-- What a trigger does, by the state of the permit it reaches (R47, R50, R52, R53, R54). -/
def Obligations.TriggersAreJudgedByState : Prop :=
  ∀ (s : State) (i : SlotId) (q : Permit), s.permit i = some q →
    ((q.state = .idle ∨ q.state = .ended) → s.takeTrigger i = (.passedBy, s)) ∧
    (q.state = .arming → s.takeTrigger i = (.missed, s.raise i .missed)) ∧
    (q.state = .armed →
      ((∀ h, q.gate = some h → ∃ r, s.resolve h = some r ∧ r.state = .active) ∧ s.quenched = false →
        (s.takeTrigger i).1 = .accepted ∧
          (0 < q.wait → (s.takeTrigger i).2 =
            (s.setPermit i { q with
              cycles := 0, renewalAge := 0, blockedAge := 0, state := .waiting, remaining := q.wait }).raise i .triggered) ∧
          (q.wait = 0 → (s.takeTrigger i).2 =
            ((s.setPermit i { q with cycles := 0, renewalAge := 0, blockedAge := 0 }).activate i).raise i .triggered)) ∧
      (¬((∀ h, q.gate = some h → ∃ r, s.resolve h = some r ∧ r.state = .active) ∧ s.quenched = false) →
        s.takeTrigger i = (.missed, s.raise i .missed))) ∧
    (q.state.running = true →
      (q.retrigger = .ignore → s.takeTrigger i = (.missed, s.raise i .missed)) ∧
      (q.retrigger = .restart → (∃ h, q.gate = some h ∧ ∀ r, s.resolve h = some r → r.state ≠ .active) →
        s.takeTrigger i = (.missed, s.raise i .missed)) ∧
      (q.retrigger = .restart → (∀ h, q.gate = some h → ∃ r, s.resolve h = some r ∧ r.state = .active) →
        (s.takeTrigger i).1 = .restarted))

/-- A RESTART from each running state (R54 to R57), the gate absent or ACTIVE: the wait again, a new activation request, or from ACTIVE
with a wait count of 0 the hold again with the claims kept. -/
def Obligations.RestartActsByState : Prop :=
  ∀ (s : State) (i : SlotId) (q : Permit), s.permit i = some q → q.retrigger = .restart →
    (∀ h, q.gate = some h → ∃ r, s.resolve h = some r ∧ r.state = .active) →
    (q.state = .active → q.wait = 0 → (s.takeTrigger i).2 =
      (s.setPermit i { q with
        remaining := q.hold, cycles := if q.shape.isTrain then 1 else 0, renewalAge := 0, blockedAge := 0 }).raise i .triggered) ∧
    (q.state = .active → 0 < q.wait → (s.takeTrigger i).2 =
      (((s.removeClaims q.lines).setPermit i { q with
        cycles := 0, renewalAge := 0, blockedAge := 0, state := .waiting, remaining := q.wait }).releaseGroups).raise i
        .triggered) ∧
    ((q.state = .waiting ∨ q.state = .resting) → 0 < q.wait → (s.takeTrigger i).2 =
      (s.setPermit i { q with
        cycles := 0, renewalAge := 0, blockedAge := 0, state := .waiting, remaining := q.wait }).raise i .triggered) ∧
    ((q.state = .waiting ∨ q.state = .resting) → q.wait = 0 → (s.takeTrigger i).2 =
      ((s.setPermit i { q with cycles := 0, renewalAge := 0, blockedAge := 0 }).activate i).raise i .triggered) ∧
    (q.state = .blocked → 0 < q.wait → (s.takeTrigger i).2 =
      ((s.leaveQueues (s.handle i)).setPermit i { q with
        cycles := 0, renewalAge := 0, blockedAge := 0, state := .waiting, remaining := q.wait }).raise i .triggered) ∧
    (q.state = .blocked → q.wait = 0 → (s.takeTrigger i).2 =
      (((s.leaveQueues (s.handle i)).setPermit i { q with cycles := 0, renewalAge := 0, blockedAge := 0 }).activate i).raise i
        .triggered)

/-- A kind raised at a permit (R134, R135): it joins the pending set of a permit with an owner when it is ENDED or in the mask, and
a permit whose set was empty joins the tail of its owner's list. Nothing else changes. -/
def Obligations.RaisedKindsArePending : Prop :=
  ∀ (s : State) (i : SlotId) (q : Permit) (k : Notice), s.permit i = some q →
    (q.owner = none → s.raise i k = s) ∧
    (k ≠ .ended → q.mask.has k = false → s.raise i k = s) ∧
    ∀ o, q.owner = some o → (k = .ended ∨ q.mask.has k = true) →
      (q.pending ≠ {} → s.raise i k = s.setPermit i { q with pending := q.pending.add k }) ∧
      (q.pending = {} → s.raise i k =
        (s.setPermit i { q with pending := q.pending.add k }).setPort o.port
          { s.port o.port with attention := (s.port o.port).attention ++ [.permit (s.handle i)] })

/-- An activation request (R29 to R31, R92): a permit with no grouped line enters ACTIVE; the group of a grouped line lets it in at
once when its queue is empty and it is FREE or HELD by that line, and otherwise queues it. -/
def Obligations.ActivationIsAnswered : Prop :=
  ∀ (s : State) (i : SlotId) (q : Permit), s.permit i = some q →
    (s.groupedLine q.lines = none →
      s.activate i = (s.setPermit i { q with
        state := .active, remaining := q.hold
        cycles := if q.shape.isTrain then min 65535 (q.cycles + 1) else q.cycles
        renewalAge := if q.shape.isLease then 0 else q.renewalAge }).addClaims q.lines) ∧
    ∀ g l, s.groupedLine q.lines = some (g, l) →
      (((s.group g).queue = [] ∧ ((s.group g).state = .free ∨ (s.group g).state = .held l)) →
        s.activate i = ((s.setGroup g { s.group g with state := .held l }).setPermit i { q with
          state := .active, remaining := q.hold
          cycles := if q.shape.isTrain then min 65535 (q.cycles + 1) else q.cycles
          renewalAge := if q.shape.isLease then 0 else q.renewalAge }).addClaims q.lines) ∧
      (¬((s.group g).queue = [] ∧ ((s.group g).state = .free ∨ (s.group g).state = .held l)) →
        s.activate i = ((s.setGroup g { s.group g with queue := (s.group g).queue ++ [s.handle i] }).setPermit i
          { q with state := .blocked, remaining := 0, blockedAge := 0 }).raise i .blocked)

/-! ### Renewal and amendment (chapter 4) -/

/-- RENEW of a port-renewed lease (R66 to R69): outside the window it sets remaining to the hold count and renewal age to 0, inside
it is refused TOO_EARLY, in WAITING and BLOCKED it answers NOT_ACTIVE, in other states it is refused WRONG_STATE. -/
def Obligations.RenewRestartsHold : Prop :=
  ∀ (s : State) (p : Port) (f : Frame) (h : RawHandle) (i : SlotId) (q : Permit), s.LevelLaw → s.Turn p f (.renew h) →
    s.Passes p h i q →
    (∀ m, q.shape = .lease .port m →
      (q.state = .active → (m = 0 ∨ m ≤ q.renewalAge) →
        exec .renew s = .next ((s.setPermit i { q with remaining := q.hold, renewalAge := 0 }).answered p f .ok [1])) ∧
      (q.state = .active → 0 < m → q.renewalAge < m → exec .renew s = .next (s.answered p f .tooEarly [])) ∧
      ((q.state = .waiting ∨ q.state = .blocked) → exec .renew s = .next (s.answered p f .ok [2])) ∧
      ((q.state ≠ .active ∧ q.state ≠ .waiting ∧ q.state ≠ .blocked) →
        exec .renew s = .next (s.answered p f .wrongState []))) ∧
    ((∀ m, q.shape ≠ .lease .port m) → exec .renew s = .next (s.answered p f .badRequest []))

/-- AMEND writes each named field and makes the further writes of its rule, in every state of the permit (R74 to R81); nothing else
changes. That the ages are written in states other than those of their own phases too is the model's reading
(notes/assumptions/12.md), and so is that mode 0 is DEFERRED and mode 1 IMMEDIATE (notes/assumptions/22.md). -/
def Obligations.AmendWritesNamedFields : Prop :=
  ∀ (s : State) (p : Port) (f : Frame) (a : AmendFields) (i : SlotId) (q q' : Permit), s.LevelLaw → s.Turn p f (.amend a) →
    s.Passes p a.handle i q → a.fieldMask.toNat < 512 →
    ((a.fieldMask.getLsbD 2 = true ∨ a.fieldMask.getLsbD 3 = true) → q.shape.isTrain = true) →
    (a.fieldMask.getLsbD 4 = true → q.shape.isLease = true) → a.mode.toNat < 2 →
    (a.fieldMask.getLsbD 1 = true → a.hold ≠ 0) → (a.fieldMask.getLsbD 2 = true → a.rest ≠ 0) →
    (a.fieldMask.getLsbD 6 = true → a.mask.toNat < 16) → (a.fieldMask.getLsbD 7 = true → a.retrigger.toNat < 2) →
    (a.fieldMask.getLsbD 8 = true → a.orphan.toNat < 2) →
    q' = { q with
      wait := if a.fieldMask.getLsbD 0 then a.wait.toNat else q.wait
      hold := if a.fieldMask.getLsbD 1 then a.hold.toNat else q.hold
      shape :=
        match q.shape with
        | .pulse => .pulse
        | .train rest repeats =>
          .train (if a.fieldMask.getLsbD 2 then a.rest.toNat else rest)
            (if a.fieldMask.getLsbD 3 then a.repeats.toNat else repeats)
        | .lease src m => .lease src (if a.fieldMask.getLsbD 4 then a.minInterval.toNat else m)
      blockLimit :=
        if a.fieldMask.getLsbD 5 then (if a.blockLimit = 0 then none else some a.blockLimit.toNat) else q.blockLimit
      mask := if a.fieldMask.getLsbD 6 then noticesOf a.mask else q.mask
      retrigger := if a.fieldMask.getLsbD 7 then (if a.retrigger = 0 then .ignore else .restart) else q.retrigger
      orphan := if a.fieldMask.getLsbD 8 then (if a.orphan = 0 then .endRun else .runOut) else q.orphan
      remaining :=
        if a.mode = 1 ∧ q.state = .waiting ∧ a.fieldMask.getLsbD 0 = true then (if a.wait = 0 then 1 else a.wait.toNat)
        else if a.mode = 1 ∧ q.state = .active ∧ a.fieldMask.getLsbD 1 = true then a.hold.toNat
        else if a.mode = 1 ∧ q.state = .resting ∧ a.fieldMask.getLsbD 2 = true then a.rest.toNat
        else q.remaining
      renewalAge :=
        if a.fieldMask.getLsbD 4 then (if q.shape.window = 0 then 0 else min q.renewalAge a.minInterval.toNat) else q.renewalAge
      blockedAge :=
        if a.fieldMask.getLsbD 5 = true ∧ (q.blockLimit = none ∨ a.blockLimit = 0) then 0 else q.blockedAge } →
    exec .amend s = .next ((s.setPermit i q').answered p f .ok (stateByte q.state :: countBytes q'.remaining))

/-! ### Ends (chapters 2 and 3) -/

/-- RELEASE ends a permit in service RELEASED, a normal end (R38, R41, R61): its record reads the end, each successor takes its trigger and
every other permit stays, but that a BLOCKED one may be granted its group (State.HandsOn), and the edges due at the permit pass it by
(R47), as do, by the model's choice, the ticks (notes/assumptions/9.md). -/
def Obligations.ReleaseEndsNormally : Prop :=
  ∀ (s : State) (p : Port) (f : Frame) (h : RawHandle) (i : SlotId) (q : Permit), s.Turn p f (.release h) →
    s.Passes p h i q → q.state.inService = true →
    ∃ u : State, exec .release s = .next (u.answered p f .ok []) ∧ s.Moves u ∧ s.Settles u ∧
      u.due = s.due.filter (fun d => decide (d ≠ .permitTick (s.handle i) ∧ d ≠ .trigger (s.handle i) ∧ d ≠ .renewal (s.handle i))) ∧
      s.EndsAs u i q .released ∧ (∀ j : SlotId, (u.slot j).gen = (s.slot j).gen) ∧ s.HandsOn u i

/-- REVOKE on P0 ends a permit in service REVOKED, whatever its owner, an orphan retired with it (R38, R43, R63, R64): its successors in
ARMING and ARMED end UPSTREAM, and theirs, down the chain, and every other permit stays, ARMING and ARMED ones too, but that a BLOCKED one
may be granted its group (State.EndsLeave). -/
def Obligations.RevokeEndsAbnormally : Prop :=
  ∀ (s : State) (f : Frame) (h : RawHandle) (i : SlotId) (q : Permit), s.Turn 0 f (.revoke h) → (s.port 0).isOpen = true →
    s.Names h i q → q.state.inService = true →
    ∃ u : State, exec .revoke s = .next (u.answered 0 f .ok []) ∧ s.Moves u ∧ s.Settles u ∧ s.EndsAs u i q .revoked ∧
      (s.EndsLeave u fun k => k = i) ∧ ∀ p : Port, u.Appends p (s.port p).attention

/-! ### Ticks at permits (chapter 2) -/

/-- The tick that completes ARMING, a tick that counts a phase without ending it, and a tick counted in BLOCKED (R25, R27, R32,
R36); a tick that ends a phase or starves the permit acts as the command that names that case, which is how the model reads the rows
of the command table (notes/assumptions/5.md). -/
def Obligations.TicksAreCounted : Prop :=
  ∀ (s : State) (i : SlotId) (q : Permit), s.LevelLaw → s.resetLow = false → s.permit i = some q →
    Due.permitTick (s.handle i) ∈ s.due →
    (q.state = .arming → exec (.armingTick i) s = .next ((s.tickTaken i).setPermit i { q with state := .armed })) ∧
    ((q.state = .waiting ∨ q.state = .resting) → 1 < q.remaining →
      exec (.phaseTick i) s = .next ((s.tickTaken i).setPermit i { q with remaining := q.remaining - 1 })) ∧
    (q.state = .active → 1 < q.remaining →
      exec (.phaseTick i) s = .next ((s.tickTaken i).setPermit i { q with
        remaining := q.remaining - 1
        renewalAge := if q.shape.window = 0 then q.renewalAge else min q.shape.window (q.renewalAge + 1) })) ∧
    (q.state = .waiting → q.remaining = 1 → exec (.phaseTick i) s = exec (.waitEnd i) s) ∧
    (q.state = .resting → q.remaining = 1 → exec (.phaseTick i) s = exec (.restEnd i) s) ∧
    (q.state = .active → q.remaining = 1 →
      exec (.phaseTick i) s = exec (if q.shape.isTrain then .trainHoldEnd i else if q.shape.isLease then .leaseExpiry i
        else .pulseHoldEnd i) s) ∧
    ((q.state = .idle ∨ q.state = .armed ∨ q.state = .ended) → exec (.phaseTick i) s = .next (s.tickTaken i)) ∧
    (q.state = .blocked → q.blockLimit = none → exec (.blockedTick i) s = .next (s.tickTaken i)) ∧
    (q.state = .blocked → ∀ b, q.blockLimit = some b →
      (q.blockedAge + 1 < b →
        exec (.blockedTick i) s = .next ((s.tickTaken i).setPermit i { q with blockedAge := q.blockedAge + 1 })) ∧
      (b ≤ q.blockedAge + 1 → exec (.blockedTick i) s = exec (.starvation i) s))

/-- The last tick of each phase (R28, R32 to R36): a wait and a rest end in an activation request; a PULSE ends COMPLETED, a TRAIN
completes or rests, a LEASE ends EXPIRED with its renewal age counted, and a BLOCKED permit at its limit ends STARVED and leaves every
queue. A completion hands each successor its trigger (R61, State.HandsOn), an expiry and a starvation end the successors in ARMING and
ARMED UPSTREAM, down the chain (R63, R64, State.EndsLeave). Every other permit stays, but that a BLOCKED one may be granted its group by
the release (R94); the attention lists keep their entries, and those of the permits concerned join the tails (R136). -/
def Obligations.PhasesEndAtTheirLastTick : Prop :=
  ∀ (s : State) (i : SlotId) (q : Permit), s.resetLow = false → s.permit i = some q → Due.permitTick (s.handle i) ∈ s.due →
    (q.state = .waiting → q.remaining = 1 → exec (.waitEnd i) s =
      .next (((s.tickTaken i).setPermit i { q with remaining := 0 }).activate i).settleLevels) ∧
    (q.state = .resting → q.remaining = 1 → exec (.restEnd i) s =
      .next (((s.tickTaken i).setPermit i { q with remaining := 0 }).activate i).settleLevels) ∧
    (q.state = .active → q.remaining = 1 → q.shape = .pulse →
      ∃ u : State, exec (.pulseHoldEnd i) s = .next u ∧ s.Moves u ∧ s.Settles u ∧ s.EndsAs u i q .completed ∧
        s.HandsOn u i) ∧
    (∀ rest repeats, q.state = .active → q.remaining = 1 → q.shape = .train rest repeats →
      ∃ u : State, exec (.trainHoldEnd i) s = .next u ∧ s.Moves u ∧ s.Settles u ∧ (∀ p : Port, u.Appends p (s.port p).attention) ∧
        (0 < repeats ∧ repeats ≤ q.cycles → s.EndsAs u i q .completed ∧ s.HandsOn u i) ∧
        (¬(0 < repeats ∧ repeats ≤ q.cycles) →
          u.permit i = some { q with state := .resting, remaining := rest } ∧ (u.slot i).gen = (s.slot i).gen ∧
            s.OthersStay u (fun _ => false) fun j => j = i)) ∧
    (∀ src m, q.state = .active → q.remaining = 1 → q.shape = .lease src m →
      ∃ u : State, exec (.leaseExpiry i) s = .next u ∧ s.Moves u ∧ s.Settles u ∧ (∀ p : Port, u.Appends p (s.port p).attention) ∧
        s.EndsAs u i { q with renewalAge := if m = 0 then q.renewalAge else min m (q.renewalAge + 1) } .expired ∧
        s.EndsLeave u fun k => k = i) ∧
    ∀ b, q.state = .blocked → q.blockLimit = some b → b ≤ q.blockedAge + 1 →
      ∃ u : State, exec (.starvation i) s = .next u ∧ s.Moves u ∧ s.Settles u ∧ (∀ p : Port, u.Appends p (s.port p).attention) ∧
        s.EndsAs u i { q with blockedAge := q.blockedAge + 1 } .starved ∧ (s.EndsLeave u fun k => k = i) ∧
        ∀ g : GroupId, s.handle i ∉ (u.group g).queue

/-- The release of a group (R94, R98, R99), by every cause of R94 but quench onset and CLEAR_TABLE, which have statements of their own: a
lease that expires, a train that rests, a starvation, a REVOKE, a renewal inside the window and a RESTART from ACTIVE with a wait
(State.GroupTakes with that permit alone); the normal ends, by the last tick of a PULSE or TRAIN and by RELEASE
(State.GroupTakesNormalEnd); a lock of any line; and the teardown of a session, by CLOSE and by BREAK. -/
def Obligations.GroupsTakeReleases : Prop :=
  ∀ (s : State) (g : GroupId), s.ExclusionLaw → s.BlockedLaw → s.QueueLaw → s.resetLow = false →
    (∀ (i : SlotId) (q : Permit), s.permit i = some q →
      (∀ c : Instr, Due.permitTick (s.handle i) ∈ s.due →
        ((c = .leaseExpiry i ∧ q.state = .active ∧ q.remaining = 1 ∧ q.shape.isLease = true) ∨
          (c = .trainHoldEnd i ∧ q.state = .active ∧ q.remaining = 1 ∧
            ∃ rest repeats, q.shape = .train rest repeats ∧ ¬(0 < repeats ∧ repeats ≤ q.cycles)) ∨
          (c = .starvation i ∧ q.state = .blocked ∧ ∃ b, q.blockLimit = some b ∧ b ≤ q.blockedAge + 1)) →
        ∃ u : State, exec c s = .next u ∧ u.LevelLaw ∧ s.GroupTakes u (fun j => j = i) g) ∧
      (∀ (f : Frame) (h : RawHandle), s.Turn 0 f (.revoke h) → (s.port 0).isOpen = true → s.Names h i q →
        q.state.inService = true →
        ∃ u : State, exec .revoke s = .next (u.answered 0 f .ok []) ∧ u.LevelLaw ∧ s.GroupTakes u (fun j => j = i) g) ∧
      (Due.renewal (s.handle i) ∈ s.due → q.state = .active → q.owner ≠ none → 0 < q.shape.window →
        q.renewalAge < q.shape.window →
        ∃ u : State, exec (.inputRenewal i) s = .next u ∧ u.LevelLaw ∧ s.GroupTakes u (fun j => j = i) g) ∧
      (q.state = .active → q.retrigger = .restart → 0 < q.wait →
        (∀ h, q.gate = some h → ∃ r, s.resolve h = some r ∧ r.state = .active) →
        s.GroupTakes (s.takeTrigger i).2.settleLevels (fun j => j = i) g) ∧
      (∀ c : Instr, Due.permitTick (s.handle i) ∈ s.due → q.state = .active → q.remaining = 1 →
        ((c = .pulseHoldEnd i ∧ q.shape = .pulse) ∨
          (c = .trainHoldEnd i ∧ ∃ rest repeats, q.shape = .train rest repeats ∧ 0 < repeats ∧ repeats ≤ q.cycles)) →
        ∃ u : State, exec c s = .next u ∧ u.LevelLaw ∧ s.GroupTakesNormalEnd u i q g) ∧
      ∀ (p : Port) (f : Frame) (h : RawHandle), s.Turn p f (.release h) → s.Passes p h i q → q.state.inService = true →
        ∃ u : State, exec .release s = .next (u.answered p f .ok []) ∧ u.LevelLaw ∧ s.GroupTakesNormalEnd u i q g) ∧
    (∀ (l : LineId) (named : SlotId → Bool), (s.line l).condition = .normal →
      named = (fun j => (s.permit j).any fun r => r.state.inService && r.names l) →
      (∀ (f : Frame) (b : Byte), s.Turn 0 f (.lockLine b) → s.Supervisor 0 → b.toNat = l.val →
        ∃ u : State, exec .lockLine s = .next (u.answered 0 f .ok []) ∧ u.LevelLaw ∧ s.GroupTakes u named g) ∧
      ∀ high : Bool, Due.lineTick (s.line l).checkTimebase l ∈ s.due → (s.line l).senseOn = true →
        high ≠ (s.line l).expectedSense → (s.line l).mismatch + 1 = (s.line l).tolerance →
        ∃ u : State, exec (.senseLock l high) s = .next u ∧ u.LevelLaw ∧ s.GroupTakes u named g) ∧
    ∀ (p : Port) (stopped : SlotId → Bool), s.OwnerLaw → (s.port p).isOpen = true →
      stopped = (fun j => (s.permit j).any fun r => s.ownedBy p r && !r.outlivesSession) →
      (∀ f : Frame, s.Turn p f .closeSession →
        ∃ (u : State) (data : List Byte), exec .closeSession s = .next (u.answered p f .ok data) ∧ u.LevelLaw ∧
          s.GroupTakes u stopped g) ∧
      ∀ x : ShiftOut, (s.port p).transaction = some x →
        ∃ u : State, exec (.breakPort p) s = .next u ∧ u.LevelLaw ∧ s.GroupTakes u stopped g

/-! ### Drive lines and groups (chapters 5 and 6) -/

/-- SET_LINE, CLEAR_LINE and SET_GROUP write what R87, R110 and R90 say and nothing else. That a tick due
at the line, or at the FREE group, passes it by is the model's choice (notes/assumptions/9.md). -/
def Obligations.LineAndGroupSettingsAreWritten : Prop :=
  ∀ (s : State) (p : Port) (f : Frame), s.LevelLaw → s.Supervisor p →
    (∀ (b pol chk tol tb spol : Byte) (l : LineId) (k : TimebaseId), s.Turn p f (.setLine b pol chk tol tb spol) →
      b.toNat = l.val → pol.toNat < 2 → chk.toNat < 2 → 1 ≤ tol.toNat → tb.toNat = k.val → spol.toNat < 2 →
      (∀ (i : SlotId) (q : Permit), s.permit i = some q → q.names l = true → q.state.inService = false) →
      exec .setLine s = .next (State.answered
        { s.setLine l
            { s.line l with
              polarity := if pol = 0 then .activeHigh else .activeLow, senseOn := decide (chk = 1), tolerance := tol.toNat
              checkTimebase := k, sensePolarity := if spol = 0 then .same else .inverted, mismatch := 0 } with
          due := s.due.filter fun d => decide (∀ j, d ≠ .lineTick j l) } p f .ok [])) ∧
    (∀ (b : Byte) (l : LineId) (c : LockCause), s.Turn p f (.clearLine b) → b.toNat = l.val →
      (s.line l).condition = .locked c →
      exec .clearLine s =
        .next ((s.setLine l { s.line l with condition := .normal, mismatch := 0 }).answered p f .ok [])) ∧
    ∀ (b gap tb : Byte) (ms : Word) (g : GroupId) (k : TimebaseId), s.Turn p f (.setGroup b ms gap tb) → b.toNat = g.val →
      (lineCount ms = 0 ∨ (2 ≤ lineCount ms ∧ lineCount ms ≤ 4)) → tb.toNat = k.val →
      (∀ (g' : GroupId) (l : LineId), g' ≠ g → ms.getLsbD l.val = true → (s.group g').has l = false) →
      (s.group g).state = .free →
      (∀ (i : SlotId) (q : Permit) (l : LineId), s.permit i = some q → q.names l = true →
        ((s.group g).has l = true ∨ ms.getLsbD l.val = true) → q.state.inService = false) →
      exec .setGroup s = .next (State.answered
        { s.setGroup g { s.group g with members := ms, gap := gap.toNat, timebase := k } with
          due := s.due.filter fun d => decide (∀ j, d ≠ .groupTick j g) } p f .ok [])

/-- A lock, by LOCK_LINE or by the sense check's tick at the tolerance, puts the line in LOCKED with its cause, places its entry on P0's
list (R109, R137) and ends every permit in service that names it LINE_LOCKED (R105 to R108). Their successors in ARMING and ARMED end
UPSTREAM, down the chain (R63, R64, R107), and every other permit stays, but that a BLOCKED one may be granted its group
(State.EndsLeave). Every other line keeps its settings and condition. That a permit which names the line and is also a successor of another
that the lock ends reads LINE_LOCKED is the model's reading (notes/assumptions/11.md). -/
def Obligations.LocksEndPermits : Prop :=
  ∀ (s : State) (l : LineId) (named : SlotId → Bool), named = (fun j => (s.permit j).any fun q => q.state.inService && q.names l) →
    (∀ (p : Port) (f : Frame) (b : Byte), s.Turn p f (.lockLine b) → s.Supervisor p → b.toNat = l.val →
      (s.line l).condition = .normal →
      ∃ u : State, exec .lockLine s = .next (u.answered p f .ok []) ∧ s.Settles u ∧
        State.Moves (s.setLine l { s.line l with condition := .locked .manual }) u ∧ (u.line l).mismatch = (s.line l).mismatch ∧
        Entry.line l .manual ∈ (u.port 0).attention ∧ u.Appends 0 ((s.port 0).listWithLock l .manual) ∧
        (∀ p', p' ≠ 0 → u.Appends p' (s.port p').attention) ∧
        (∀ (i : SlotId) (q : Permit), s.permit i = some q → named i = true → s.EndsAs u i q .lineLocked) ∧ s.EndsLeave u named) ∧
    ∀ high : Bool, s.resetLow = false → Due.lineTick (s.line l).checkTimebase l ∈ s.due → (s.line l).senseOn = true →
      (s.line l).condition = .normal → high ≠ (s.line l).expectedSense → (s.line l).mismatch + 1 = (s.line l).tolerance →
      ∃ u : State, exec (.senseLock l high) s = .next u ∧
        State.Settles (s.setLine l { s.line l with condition := .locked .sense, mismatch := (s.line l).tolerance }) u ∧
        State.Moves (s.setLine l { s.line l with condition := .locked .sense }) u ∧ (u.line l).mismatch = (s.line l).tolerance ∧
        ((s.port 0).isOpen = true → Entry.line l .sense ∈ (u.port 0).attention) ∧
        u.Appends 0 ((s.port 0).listWithLock l .sense) ∧ (∀ p', p' ≠ 0 → u.Appends p' (s.port p').attention) ∧
        (∀ (i : SlotId) (q : Permit), s.permit i = some q → named i = true → s.EndsAs u i q .lineLocked) ∧ s.EndsLeave u named

/-- The sense check's tick (R103): a match clears the mismatch count, a mismatch below the tolerance raises it, one that reaches the
tolerance is SENSE_LOCK, and with the check OFF or the line LOCKED there is no comparison. The expected level follows the pin. That
SENSE_CHECK at the tolerance is SENSE_LOCK is how the model reads the two rows (notes/assumptions/5.md). -/
def Obligations.SenseCheckCompares : Prop :=
  ∀ (s : State) (l : LineId) (high : Bool) (s0 : State), s.LevelLaw → s.resetLow = false →
    Due.lineTick (s.line l).checkTimebase l ∈ s.due →
    s0 = { s with due := s.due.erase (.lineTick (s.line l).checkTimebase l) } →
    (s.line l).pin = ((s.line l).asserted ^^ decide ((s.line l).polarity = .activeLow)) ∧
    (s.line l).expectedSense = ((s.line l).pin ^^ decide ((s.line l).sensePolarity = .inverted)) ∧
    (((s.line l).senseOn = false ∨ (s.line l).condition ≠ .normal) → exec (.senseCheck l high) s = .next s0) ∧
    ((s.line l).senseOn = true → (s.line l).condition = .normal →
      (high = (s.line l).expectedSense → exec (.senseCheck l high) s = .next (s0.setLine l { s.line l with mismatch := 0 })) ∧
      (high ≠ (s.line l).expectedSense → (s.line l).mismatch + 1 ≠ (s.line l).tolerance →
        exec (.senseCheck l high) s = .next (s0.setLine l { s.line l with mismatch := (s.line l).mismatch + 1 })) ∧
      (high ≠ (s.line l).expectedSense → (s.line l).mismatch + 1 = (s.line l).tolerance →
        exec (.senseCheck l high) s = exec (.senseLock l high) s))

/-- A tick of the group timebase (R95, R96): in FREE and HELD it does nothing; in GAP the gap counts down, and at its last tick the
group is FREE, or with a BLOCKED head of its queue HELD by the head's line, the head ACTIVE with GRANTED raised, and with it exactly
those that follow it in the queue and name the same line. Every other slot and group is as it was, and the attention lists keep their
entries. That GAP_TICK at the last tick is GAP_END is how the model reads the two rows (notes/assumptions/5.md). -/
def Obligations.GapsAreCountedAndGrant : Prop :=
  ∀ (s : State) (g : GroupId) (s0 : State), s.resetLow = false → Due.groupTick (s.group g).timebase g ∈ s.due →
    s0 = { s with due := s.due.erase (.groupTick (s.group g).timebase g) } →
    (s.LevelLaw → (∀ r, (s.group g).state ≠ .gap r) → exec (.gapTick g) s = .next s0) ∧
    (∀ r, (s.group g).state = .gap r → s.LevelLaw → 1 < r →
      exec (.gapTick g) s = .next (s0.setGroup g { s.group g with state := .gap (r - 1) })) ∧
    ((s.group g).state = .gap 1 → exec (.gapTick g) s = exec (.gapEnd g) s) ∧
    ((s.group g).state = .gap 1 → s.LevelLaw → (s.group g).queue = [] →
      exec (.gapEnd g) s = .next (s0.setGroup g { s.group g with state := .free })) ∧
    ∀ (h : Handle) (rest : List Handle) (q : Permit) (l : LineId), (s.group g).state = .gap 1 →
      (s.group g).queue = h :: rest → s.resolve h = some q → q.state = .blocked → s.memberLine g q = some l →
      ∃ (u : State) (k : Nat), exec (.gapEnd g) s = .next u ∧ s0.Moves u ∧ s.Settles u ∧ u.due = s0.due ∧
        (∀ j : SlotId, (u.slot j).gen = (s.slot j).gen ∧ ((∀ h' ∈ h :: rest.take k, h'.slot ≠ j) → u.slot j = s.slot j)) ∧
        (∀ g', g' ≠ g → u.group g' = s.group g') ∧ (∀ p : Port, u.Appends p (s.port p).attention) ∧ (u.group g).state = .held l ∧
        u.permit h.slot = some q.granted ∧ (u.group g).queue = rest.drop k ∧
        (∀ h' ∈ rest.take k, ∃ r, s.resolve h' = some r ∧ r.state = .blocked ∧ s.memberLine g r = some l ∧
          u.permit h'.slot = some r.granted) ∧
        ∀ h', (rest.drop k).head? = some h' → ∀ r, u.resolve h' = some r → r.state = .blocked → s.memberLine g r ≠ some l

/-- The quench requests and the pin (R112 to R116): the latch and the level are written, an onset ends every running permit QUENCHED and
its ARMING and ARMED successors UPSTREAM down the chain, leaves the other permits alone, empties the queues and releases the HELD groups,
every setting, condition, session, quota and holder as it was (State.OnsetTakes); an end restarts nothing. An onset and an end place the
quench entry at the tail of P0's list while P0's session is OPEN, if it is not there (R116, R137). -/
def Obligations.QuenchIsTakenUp : Prop :=
  ∀ (s : State) (f : Frame),
    (∀ v : State,
      ((v.port 0).isOpen = true → Entry.quench ∉ (v.port 0).attention → v.placeQuenchEntry =
        v.setPort 0 { v.port 0 with attention := (v.port 0).attention ++ [.quench] }) ∧
      ((v.port 0).isOpen = false ∨ Entry.quench ∈ (v.port 0).attention → v.placeQuenchEntry = v)) ∧
    (s.Turn 0 f .quenchSet → (s.port 0).isOpen = true → s.quenched = false →
      ∃ u : State, exec .quenchSet s = .next (u.answered 0 f .ok [1, 1]) ∧ u.latch = true ∧ u.quenchLow = s.quenchLow ∧
        Entry.quench ∈ (u.port 0).attention ∧ s.OnsetTakes u) ∧
    (s.LevelLaw → s.Turn 0 f .quenchSet → (s.port 0).isOpen = true → s.quenched = true →
      exec .quenchSet s = .next (State.answered { s with latch := true } 0 f .ok [1, 1])) ∧
    (s.LevelLaw → s.Turn 0 f .quenchClear → (s.port 0).isOpen = true →
      exec .quenchClear s = .next (State.answered
        (if s.quenched = true ∧ s.quenchLow = false then State.placeQuenchEntry { s with latch := false }
          else { s with latch := false }) 0 f .ok [0, if s.quenchLow then 1 else 0])) ∧
    (s.resetLow = false → s.quenched = false →
      ∃ u : State, exec (.quenchPinChange true) s = .next u ∧ u.quenchLow = true ∧ u.latch = s.latch ∧
        ((s.port 0).isOpen = true → Entry.quench ∈ (u.port 0).attention) ∧ s.OnsetTakes u) ∧
    (s.LevelLaw → s.resetLow = false → s.quenched = true → ∀ low : Bool,
      exec (.quenchPinChange low) s = .next
        (if low = false ∧ s.latch = false then State.placeQuenchEntry { s with quenchLow := low } else { s with quenchLow := low }))

/-! ### Attention (chapter 8) -/

/-- NEXT_ATTENTION shows the head entry and changes nothing (R140); an ACK of a permit removes the named kinds, and the entry when none
is left (R141); an ACK of a line or of quench removes the entry from P0's list and says whether there was one (R142). Without a session they are
refused NO_SESSION. The answer to NEXT_ATTENTION for an entry that names no permit, in a state that no run reaches
(notes/assumptions/16.md), and that the bytes e1 to e5 are free (notes/assumptions/2.md), are the model's choice. -/
def Obligations.AttentionIsReadAndAcknowledged : Prop :=
  ∀ (s : State) (p : Port) (f : Frame), s.LevelLaw →
    ((s.port p).isOpen = false → s.Turn p f .nextAttention → exec .nextAttention s = .next (s.answered p f .noSession [])) ∧
    (∀ (h : RawHandle) (kinds : Byte), (s.port p).isOpen = false → s.Turn p f (.ackPermit h kinds) →
      exec .ackPermitEntry s = .next (s.answered p f .noSession [])) ∧
    ((s.port p).isOpen = true → s.Turn p f .nextAttention → ∃ e1 e2 e3 e4 e5 : Byte,
      exec .nextAttention s = .next (s.answered p f .ok
        (match (s.port p).attention with
          | [] => [0, e1, e2, e3, e4, e5]
          | .permit h :: _ =>
            (match s.resolve h with
              | none => [1, byteOf h.slot.val, h.gen, e1, e2, e3]
              | some q => [1, byteOf h.slot.val, h.gen, stateByte q.state, noticesByte q.pending,
                  if q.state = .ended then reasonByte q.endReason else 0])
          | .line l c :: _ =>
            [2, byteOf l.val, if c = .sense then 0 else 1, if (s.line l).condition = .normal then 0 else 1, e1, e2]
          | .quench :: _ => [3, if s.quenched then 1 else 0, e1, e2, e3, e4]))) ∧
    (∀ (h : RawHandle) (kinds : Byte) (i : SlotId) (q : Permit), s.Turn p f (.ackPermit h kinds) → s.Passes p h i q →
      kinds.toNat < 32 →
      exec .ackPermitEntry s = .next
        ((if q.pending.minus (noticesOf kinds) = {} then
            (s.setPermit i { q with pending := {} }).setPort p
              { s.port p with attention := (s.port p).attention.filter (· ≠ .permit (s.handle i)) }
          else s.setPermit i { q with pending := q.pending.minus (noticesOf kinds) }).answered p f .ok
          [noticesByte (q.pending.minus (noticesOf kinds))])) ∧
    (∀ (b : Byte) (l : LineId), s.Turn p f (.ackLine b) → s.Supervisor p → b.toNat = l.val →
      exec .ackLineEntry s = .next
        ((s.setPort 0 { s.port 0 with attention := (s.port 0).attention.filter fun e => !e.isLine l }).answered p f .ok
          [if (s.port 0).attention.any (Entry.isLine l) then 1 else 0])) ∧
    (s.Turn p f .ackQuench → s.Supervisor p →
      exec .ackQuenchEntry s = .next
        ((s.setPort 0 { s.port 0 with attention := (s.port 0).attention.filter fun e => !e.isQuench }).answered p f .ok
          [if (s.port 0).attention.any Entry.isQuench then 1 else 0]))

/-! ### Timebases and inputs (chapter 7) -/

/-- SET_TIMEBASE on a STOPPED timebase writes source, divisor and running count (R123), on a RUNNING one of the same source the pending
divisor (R124), and of another source is refused WRONG_STATE; START_TIMEBASE and STOP_TIMEBASE (R125 to R127). Every answer carries
the timebase report in the 10 bytes of R170, of which those of an absent item are free (notes/assumptions/2.md). After the stop no tick of
the timebase at a group, a line or another timebase and no source event of it is due (R87, R95, R127; notes/assumptions/9.md). SET_TIMEBASE
reads the source by R122; that it does not read the second byte of REFCLK is the model's reading (notes/assumptions/14.md). -/
def Obligations.TimebaseRequestsAnswer : Prop :=
  ∀ (s : State) (p : Port) (f : Frame) (b : Byte) (k : TimebaseId), s.LevelLaw → s.Supervisor p → b.toNat = k.val →
    (∀ (kind arg : Byte) (w : Word) (src : TimebaseSource) (d : Nat), s.Turn p f (.setTimebase b kind arg w) →
      sourceOf k kind arg = some src → d = (if w = 0 then 65536 else w.toNat) →
      ((s.timebase k).running = false →
        ∀ u, u = s.setTimebase k { s.timebase k with source := src, divisor := d, count := d } →
          exec .setTimebase s = .next (u.answered p f .ok ((u.timebase k).report s.freeCount))) ∧
      ((s.timebase k).running = true → (s.timebase k).source = src →
        ∀ u, u = s.setTimebase k { s.timebase k with pendingDivisor := some d } →
          exec .setTimebase s = .next (u.answered p f .ok ((u.timebase k).report s.freeCount))) ∧
      ((s.timebase k).running = true → (s.timebase k).source ≠ src →
        exec .setTimebase s = .next (s.answered p f .wrongState ((s.timebase k).report s.freeCount)))) ∧
    (s.Turn p f (.startTimebase b) → (s.timebase k).running = false →
      (∀ j, (s.timebase k).source = .tick j → (s.timebase j).running = true) →
      ∀ u, u = s.setTimebase k { s.timebase k with count := (s.timebase k).divisor, running := true } →
        exec .startTimebase s = .next (u.answered p f .ok ((u.timebase k).report s.freeCount))) ∧
    (s.Turn p f (.stopTimebase b) → (s.timebase k).running = true →
      (∀ (i : SlotId) (q : Permit), s.permit i = some q → q.timebase = k → q.state.inService = false) →
      (∀ (g : GroupId) (r : Nat), (s.group g).timebase = k → (s.group g).state ≠ .gap r) →
      (∀ l : LineId, (s.line l).checkTimebase = k → (s.line l).senseOn = false) →
      (∀ j : TimebaseId, (s.timebase j).source = .tick k → (s.timebase j).running = false) →
      ∀ u, u =
          { s.setTimebase k
              { s.timebase k with
                running := false, divisor := (s.timebase k).pendingDivisor.getD (s.timebase k).divisor, pendingDivisor := none } with
            due := s.due.filter fun d : Due => decide ((∀ g, d ≠ Due.groupTick k g) ∧ (∀ l, d ≠ Due.lineTick k l) ∧
              (∀ j, d ≠ Due.sourceTick k j ∧ d ≠ Due.sourceTick j k) ∧ ∀ n rising, d ≠ Due.sourceEdge n rising k) } →
        exec .stopTimebase s = .next (u.answered p f .ok ((u.timebase k).report s.freeCount))) ∧
    (∀ (kind arg : Byte) (src : TimebaseSource), sourceOf k kind arg = some src ↔
      (kind = 0 ∧ src = .refclk) ∨ (kind = 1 ∧ ∃ j, j < k ∧ arg.toNat = j.val ∧ src = .tick j) ∨
        (kind = 2 ∧ ∃ n e, inputEdgeOf arg = some (n, e) ∧ src = .edge n e)) ∧
    ∀ (c : Nat) (x : Timebase), ∃ e1 e2 e3 : Byte, (x.report c).length = 10 ∧
      x.report c =
        (match x.source with
          | .refclk => [0, e1]
          | .tick j => [1, byteOf j.val]
          | .edge n e => [2, inputEdgeByte n e]) ++
          countBytes x.divisor ++
          (match x.pendingDivisor with
            | some d => 1 :: countBytes d
            | none => [0, e2, e3]) ++
          [if x.running then 1 else 0] ++ countBytes x.count

/-- A source event (R119 to R121): a STOPPED timebase takes it without effect, a RUNNING one counts it, and the one that brings the
running count to zero is a tick: the count reloads, a pending divisor taken up, and the tick is due at every user. That a REFCLK event
comes from outside with the command is log entry 7, that TIMEBASE_SOURCE_EVENT at a count of 1 is TIMEBASE_TICK log entry 5, and what a
delivery does to earlier ticks log entry 9: the model's choices. -/
def Obligations.SourceEventsCountAndTick : Prop :=
  ∀ (s : State) (k : TimebaseId) (s0 : State), s.resetLow = false → s.SourceEvent k s0 →
    ((s.timebase k).running = false → exec (.timebaseSourceEvent k) s = .next s0) ∧
    ((s.timebase k).running = true → 1 < (s.timebase k).count →
      exec (.timebaseSourceEvent k) s =
        .next (s0.setTimebase k { s.timebase k with count := (s.timebase k).count - 1 })) ∧
    ((s.timebase k).running = true → (s.timebase k).count = 1 →
      exec (.timebaseSourceEvent k) s = exec (.timebaseTick k) s ∧
      ∀ d, d = (s.timebase k).pendingDivisor.getD (s.timebase k).divisor →
        exec (.timebaseTick k) s = .next ((s0.setTimebase k
          { s.timebase k with divisor := d, pendingDivisor := none, count := d }).deliver (s.tickUsers k)))

/-- The users to which a tick is delivered (R121) and the receivers of a filtered edge (R131), each once, and what a delivery leaves due.
The model's choices (notes/assumptions/9.md): users and receivers at which the tick or edge could change nothing (a permit out of
service, a line with its check OFF, a STOPPED timebase, a receiver of the other polarity) are given none, and a delivery takes away an
earlier happening of the same kind whose user has no use for it. -/
def Obligations.TicksAndEdgesReachUsers : Prop :=
  ∀ (s : State) (d : Due),
    (∀ k : TimebaseId, (s.tickUsers k).Nodup ∧
      (d ∈ s.tickUsers k ↔
        (∃ i q, d = .permitTick (s.handle i) ∧ s.permit i = some q ∧ q.timebase = k ∧ q.state ≠ .idle ∧ q.state ≠ .ended) ∨
        (∃ g, d = .groupTick k g ∧ (s.group g).timebase = k) ∨
        (∃ l, d = .lineTick k l ∧ (s.line l).checkTimebase = k ∧ (s.line l).senseOn = true) ∨
        ∃ tb, d = .sourceTick k tb ∧ (s.timebase tb).source = .tick k ∧ (s.timebase tb).running = true)) ∧
    (∀ (n : InputId) (rising : Bool), (s.edgeReceivers n rising).Nodup ∧
      (d ∈ s.edgeReceivers n rising ↔
        (∃ i q e, d = .trigger (s.handle i) ∧ s.permit i = some q ∧ q.trigger = .input n e ∧ e.takes rising = true ∧
          q.state.inService = true) ∨
        (∃ i q e m, d = .renewal (s.handle i) ∧ s.permit i = some q ∧ q.shape = .lease (.input n e) m ∧ e.takes rising = true ∧
          q.state.inService = true) ∨
        ∃ tb e, d = .sourceEdge n rising tb ∧ (s.timebase tb).source = .edge n e ∧ e.takes rising = true ∧
          (s.timebase tb).running = true)) ∧
    (∀ ds : List Due, ds.Nodup → (s.deliver ds).due.count d =
      if d ∈ ds then 1 + (if s.hasUse d = true then s.due.count d else 0) else s.due.count d) ∧
    (s.hasUse d = true ↔
      match d with
      | .permitTick h => ∃ q, s.resolve h = some q ∧
          (q.state = .arming ∨ q.state = .waiting ∨ q.state = .blocked ∨ q.state = .active ∨ q.state = .resting)
      | .groupTick _ g => ∃ r, (s.group g).state = .gap r
      | .lineTick _ l => (s.line l).senseOn = true ∧ (s.line l).condition = .normal
      | .sourceTick _ tb => (s.timebase tb).running = true
      | .sourceEdge _ _ tb => (s.timebase tb).running = true
      | .trigger h => ∃ q, s.resolve h = some q ∧ q.state.inService = true
      | .renewal h => ∃ q, s.resolve h = some q ∧ q.state = .active ∧ q.owner ≠ none)

/-- SET_INPUT writes depth and divider, clears the agreement count and reloads the sample phase (R132). A rising edge of REFCLK lowers the
sample phase, and at zero the input samples: the first sample sets the level without an edge, an equal sample clears the agreement
count, a different one raises it, and at the depth the level changes and the edge is due at its receivers (R128 to R131). That
INPUT_SAMPLE is one REFCLK edge at one input is log entry 7, and that at the depth it is FILTERED_EDGE log entry 5: the model's
choices. -/
def Obligations.InputsAreConditioned : Prop :=
  ∀ (s : State) (n : InputId),
    (∀ (b : Byte) (v : Divider), dividerOf b = some v ↔
      (b = 0 ∧ v.edges = 1) ∨ (b = 1 ∧ v.edges = 8) ∨ (b = 2 ∧ v.edges = 64) ∨ (b = 3 ∧ v.edges = 512)) ∧
    (∀ (p : Port) (f : Frame) (b dep div : Byte) (v : Divider) (x : Input), s.LevelLaw → s.Supervisor p →
      s.Turn p f (.setInput b dep div) → b.toNat = n.val → 1 ≤ dep.toNat → dep.toNat ≤ 7 → dividerOf div = some v →
      x = { s.input n with depth := dep.toNat, divider := v, agreement := 0, phase := v.edges } →
      exec .setInput s = .next ((s.setInput n x).answered p f .ok [dep, div, if (s.input n).level then 1 else 0, 0])) ∧
    ∀ (raw : Bool) (x y : Input), s.resetLow = false → x = s.input n → y = { x with phase := x.divider.edges } →
      (1 < x.phase → exec (.inputSample n raw) s = .next (s.setInput n { x with phase := x.phase - 1 })) ∧
      (x.phase = 1 → x.sampled = false →
        exec (.inputSample n raw) s = .next (s.setInput n { y with level := raw, agreement := 0, sampled := true })) ∧
      (x.phase = 1 → x.sampled = true → raw = x.level →
        exec (.inputSample n raw) s = .next (s.setInput n { y with agreement := 0 })) ∧
      (x.phase = 1 → x.sampled = true → raw ≠ x.level → x.agreement + 1 ≠ x.depth →
        exec (.inputSample n raw) s = .next (s.setInput n { y with agreement := x.agreement + 1 })) ∧
      (x.phase = 1 → x.sampled = true → raw ≠ x.level → x.agreement + 1 = x.depth →
        exec (.inputSample n raw) s = exec (.filteredEdge n raw) s ∧
        exec (.filteredEdge n raw) s =
          .next ((s.setInput n { y with level := raw, agreement := 0 }).deliver (s.edgeReceivers n raw)))

/-- A renewal edge taken by a lease (R71, R72): an ACTIVE lease with an owner is renewed outside its window and ends RENEW_EARLY inside it,
which ends its successors in ARMING and ARMED UPSTREAM, down the chain, and leaves every other permit, but that a BLOCKED one may be granted
its group (R63, R64, State.EndsLeave); in every other case the edge passes by. -/
def Obligations.InputRenewalsAreTaken : Prop :=
  ∀ (s : State) (i : SlotId) (q : Permit) (s0 : State), s.resetLow = false → s.permit i = some q →
    Due.renewal (s.handle i) ∈ s.due → s0 = { s with due := s.due.erase (.renewal (s.handle i)) } →
    (s.LevelLaw → (q.state ≠ .active ∨ q.owner = none) → exec (.inputRenewal i) s = .next s0) ∧
    (s.LevelLaw → q.state = .active → q.owner ≠ none → (q.shape.window = 0 ∨ q.shape.window ≤ q.renewalAge) →
      exec (.inputRenewal i) s = .next (s0.setPermit i { q with remaining := q.hold, renewalAge := 0 })) ∧
    (q.state = .active → q.owner ≠ none → 0 < q.shape.window → q.renewalAge < q.shape.window →
      ∃ u : State, exec (.inputRenewal i) s = .next u ∧ s.Moves u ∧ s.Settles u ∧ s.EndsAs u i q .renewEarly ∧
        (s.EndsLeave u fun k => k = i) ∧ ∀ p : Port, u.Appends p (s.port p).attention)

/-! ### The checks of the supervisor requests -/

/-- The supervisor requests make the role check and the session check first (R144), and then their own checks in the order of their rules:
SET_TIMEBASE, START_TIMEBASE and STOP_TIMEBASE, whose refusals at checks 4 and 5 carry the timebase report (R122, R125, R126), SET_INPUT
(R132), SET_LINE (R86), SET_GROUP (R89), LOCK_LINE and CLEAR_LINE (R106, R110), ACK of a line entry (R142), and SET_QUOTA (R149), whose
refusals carry the quotas, those by role and session by the model's reading (notes/assumptions/13.md). A refused request changes nothing
else. -/
def Obligations.SupervisorRequestsCheckInOrder : Prop :=
  ∀ (s : State) (p : Port) (f : Frame) (st : Status) (b : Byte), s.LevelLaw →
    (∀ r : Request, s.Turn p f r →
      (r = .quenchSet ∨ r = .quenchClear ∨ r = .clearTable ∨ r = .ackQuench ∨ r = .ackLine b ∨ r = .lockLine b ∨
        r = .clearLine b ∨ r = .startTimebase b ∨ r = .stopTimebase b ∨ (∃ kind arg w, r = .setTimebase b kind arg w) ∨
        (∃ dep div, r = .setInput b dep div) ∨ (∃ pol chk tol tb spol, r = .setLine b pol chk tol tb spol) ∨
        ∃ ms gap tb, r = .setGroup b ms gap tb) →
      firstFailure [(decide (p = 0), .notPermitted), ((s.port p).isOpen, .noSession)] = some st →
      exec (rowOf r) s = .next (s.answered p f st [])) ∧
    (∀ n : Byte, s.Turn p f (.setQuota b n) →
      firstFailure [(decide (p = 0), .notPermitted), ((s.port p).isOpen, .noSession), (decide (b.toNat < 3), .badField)] =
        some st →
      exec .setQuota s = .next (s.answered p f st ([0, 1, 2].map fun k : Port => byteOf (s.port k).quota))) ∧
    (s.Supervisor p →
      (∀ (kind arg : Byte) (w : Word), s.Turn p f (.setTimebase b kind arg w) →
        (4 ≤ b.toNat ∨ (∃ k : TimebaseId, b.toNat = k.val ∧ sourceOf k kind arg = none)) →
        exec .setTimebase s = .next (s.answered p f .badField [])) ∧
      (4 ≤ b.toNat → s.Turn p f (.startTimebase b) → exec .startTimebase s = .next (s.answered p f .badField [])) ∧
      (4 ≤ b.toNat → s.Turn p f (.stopTimebase b) → exec .stopTimebase s = .next (s.answered p f .badField [])) ∧
      (∀ k : TimebaseId, b.toNat = k.val →
        (s.Turn p f (.startTimebase b) →
          firstFailure [(!(s.timebase k).running, .wrongState),
            (decide (∀ j, (s.timebase k).source = .tick j → (s.timebase j).running = true), .wrongState)] = some st →
          exec .startTimebase s = .next (s.answered p f st ((s.timebase k).report s.freeCount))) ∧
        (s.Turn p f (.stopTimebase b) →
          firstFailure [((s.timebase k).running, .wrongState),
            (decide ((∀ i : SlotId, ∀ q ∈ s.permit i, q.timebase = k → q.state.inService = false) ∧
              (∀ g : GroupId, (s.group g).timebase = k → (s.group g).state.isGap = false) ∧
              (∀ l : LineId, (s.line l).checkTimebase = k → (s.line l).senseOn = false) ∧
              ∀ j : TimebaseId, (s.timebase j).source = .tick k → (s.timebase j).running = false), .inUse)] = some st →
          exec .stopTimebase s = .next (s.answered p f st ((s.timebase k).report s.freeCount)))) ∧
      (∀ dep div : Byte, s.Turn p f (.setInput b dep div) →
        (8 ≤ b.toNat ∨ dep.toNat = 0 ∨ 8 ≤ dep.toNat ∨ 4 ≤ div.toNat) →
        exec .setInput s = .next (s.answered p f .badField [])) ∧
      (∀ pol chk tol tb spol : Byte, s.Turn p f (.setLine b pol chk tol tb spol) →
        firstFailure [(decide (b.toNat < 16 ∧ pol.toNat < 2 ∧ chk.toNat < 2 ∧ tol ≠ 0 ∧ tb.toNat < 4 ∧ spol.toNat < 2), .badField),
          (decide (∀ i : SlotId, ∀ q ∈ s.permit i, q.state.inService = true → ∀ l : LineId, b.toNat = l.val → q.names l = false),
            .inUse)] = some st →
        exec .setLine s = .next (s.answered p f st [])) ∧
      (∀ (ms : Word) (gap tb : Byte) (g : GroupId), b.toNat = g.val → s.Turn p f (.setGroup b ms gap tb) →
        firstFailure [(decide ((lineCount ms = 0 ∨ (2 ≤ lineCount ms ∧ lineCount ms ≤ 4)) ∧ tb.toNat < 4), .badField),
          (decide (∀ g' : GroupId, g' ≠ g → ∀ l : LineId, ms.getLsbD l.val = true → (s.group g').has l = false), .groupConflict),
          (decide ((s.group g).state = .free ∧ ∀ i : SlotId, ∀ q ∈ s.permit i, q.state.inService = true →
            ∀ l : LineId, q.names l = true → (s.group g).has l = false ∧ ms.getLsbD l.val = false), .inUse)] = some st →
        exec .setGroup s = .next (s.answered p f st [])) ∧
      (∀ (ms : Word) (gap tb : Byte), 8 ≤ b.toNat → s.Turn p f (.setGroup b ms gap tb) →
        exec .setGroup s = .next (s.answered p f .badField [])) ∧
      (s.Turn p f (.lockLine b) →
        firstFailure [(decide (b.toNat < 16), .badField),
          (decide (∀ l : LineId, b.toNat = l.val → (s.line l).condition = .normal), .wrongState)] = some st →
        exec .lockLine s = .next (s.answered p f st [])) ∧
      (s.Turn p f (.clearLine b) →
        firstFailure [(decide (b.toNat < 16), .badField),
          (decide (∀ l : LineId, b.toNat = l.val → (s.line l).condition ≠ .normal), .wrongState)] = some st →
        exec .clearLine s = .next (s.answered p f st [])) ∧
      (s.Turn p f (.ackLine b) → 16 ≤ b.toNat → exec .ackLineEntry s = .next (s.answered p f .badField [])))

/-! ### The laws of the part, kept by every step -/

/-- Reset leaves a state in which every law of the part holds (R1, R83, R88, R118, R128, R136, R146, R148). -/
def Obligations.ResetKeepsEveryLaw : Prop :=
  State.reset.LevelLaw ∧ State.reset.ExclusionLaw ∧ State.reset.LockLaw ∧ State.reset.QuenchLaw ∧ State.reset.QueueLaw ∧
    State.reset.BlockedLaw ∧ State.reset.QuotaLaw ∧ State.reset.OwnerLaw ∧ State.reset.CountLaw ∧ State.reset.ListLaw ∧
    State.reset.TimebaseLaw ∧ State.reset.InputLaw ∧ State.reset.RecordLaw ∧ State.reset.OrphanLaw ∧ State.reset.ReferenceLaw ∧
    State.reset.DueLaw

/-- Every step keeps the drive lines' law: the claim count is the number of ACTIVE permits that name the line, and the line is asserted
exactly while it is above zero (R84). -/
def Obligations.LineLawIsKept : Prop :=
  ∀ s t : State, s.ClaimLaw → s.LevelLaw → step s = .next t → t.ClaimLaw ∧ t.LevelLaw

/-- Every step keeps the exclusion groups' law, so that no two member lines of one group are asserted together (R91). -/
def Obligations.ExclusionIsKept : Prop :=
  ∀ s t : State, s.ExclusionLaw → step s = .next t →
    t.ExclusionLaw ∧
      ∀ (g : GroupId) (l l' : LineId), (t.group g).has l = true → (t.group g).has l' = true → (t.line l).asserted = true →
        (t.line l').asserted = true → l = l'

/-- Every step keeps the wait queues' law: a permit is in a group's queue exactly while it is BLOCKED on it, once, and a FREE group's queue
is empty (R91, R97). -/
def Obligations.QueuesAreKept : Prop :=
  ∀ s t : State, s.ExclusionLaw → s.BlockedLaw → s.QueueLaw → step s = .next t → t.BlockedLaw ∧ t.QueueLaw

/-- Every step keeps the lock's law, that a LOCKED line is named by no permit in service (R107), and quench's law, that while the quench
condition holds no permit is running, and while RESET_N is low there is none (R115, R1). -/
def Obligations.LockAndQuenchLawsAreKept : Prop :=
  ∀ s t : State, step s = .next t → (s.LockLaw → t.LockLaw) ∧ (s.QuenchLaw → t.QuenchLaw)

/-- Every step keeps the quotas' law, that no owned count passes its quota and the quotas sum to at most 48 (R148), and the owners' law, that
every owner is the session open on its port and the owned count is the number of permits it owns (R4, R148). -/
def Obligations.QuotasAndOwnersAreKept : Prop :=
  ∀ s t : State, step s = .next t →
    (s.QuotaLaw → t.QuotaLaw) ∧ (s.OwnerLaw → s.CountLaw → t.OwnerLaw ∧ t.CountLaw)

/-- Every step keeps the references' law: every predecessor and gate that a permit names is a current permit of the same owner, and an
ownerless permit is running (R6, R7, R151, R153). -/
def Obligations.ReferencesAreKept : Prop :=
  ∀ s t : State, s.OwnerLaw → s.OrphanLaw → s.ReferenceLaw → step s = .next t → t.OrphanLaw ∧ t.ReferenceLaw

/-- Every step keeps the attention lists' law: each entry at most once, and the permit entries exactly the permits of the port's session whose
pending set is not empty (R136); and a port drives INT_N low exactly while its list holds an entry (R139). -/
def Obligations.AttentionListsAreKept : Prop :=
  ∀ s t : State, s.OwnerLaw → s.ListLaw → step s = .next t →
    t.ListLaw ∧ ∀ p : Port, (t.port p).intLow = true ↔ (t.port p).attention ≠ []

/-- Every step keeps the timebases and inputs in their ranges, every permit in service on a RUNNING timebase, and every RUNNING cascade on a
RUNNING source (R118, R121, R125, R126, R128). What is due is due at a user in service and of a RUNNING timebase, so that no edge outlives
the subscription it reached and no tick its timebase's stop (R47, R87, R95, R127); that this holds of the ticks at a permit too rests on
notes/assumptions/9.md. -/
def Obligations.TimeLawsAreKept : Prop :=
  ∀ s t : State, step s = .next t →
    (s.TimebaseLaw → s.InputLaw → t.TimebaseLaw ∧ t.InputLaw) ∧ (s.TimebaseLaw → s.DueLaw → t.DueLaw)

/-- Every step keeps every permit record in its ranges, the block limit absent or 1 to 65535 among them (R8, R9, R27, R38). -/
def Obligations.RecordsStayInRange : Prop :=
  ∀ s t : State, s.RecordLaw → step s = .next t → t.RecordLaw
end

