-- ==== Sys2Proof/Laws/Bits.lean ====
section
/-! SUPPORT. Bits and bytes on a port (R156): what bytesOf makes of the bits of whole bytes and of those after them, and the bits
of a byte on SDO. -/

namespace Sys2Proof

/-- Eight bits of a byte, most significant first, are taken as that byte (R156). -/
@[simp] theorem bytesOf_bitsOf_append (b : Byte) (rest : List Bool) : bytesOf (bitsOf b ++ rest) = b :: bytesOf rest := by
  have h : (bitsOf b).foldl shiftIn 0 = b := by revert b; decide +kernel
  exact congrArg (· :: bytesOf rest) h

/-- Bits that make no whole byte are discarded (R156). -/
theorem bytesOf_short : ∀ bits : List Bool, bits.length < 8 → bytesOf bits = []
  | [], _ | [_], _ | [_, _], _ | [_, _, _], _ | [_, _, _, _], _ | [_, _, _, _, _], _ | [_, _, _, _, _, _], _
  | [_, _, _, _, _, _, _], _ => rfl
  | _ :: _ :: _ :: _ :: _ :: _ :: _ :: _ :: _, h => by simp only [List.length_cons] at h; omega

/-- A bit of a byte, counted from the first sent (R156). -/
theorem bitsOf_get (b : Byte) (k : Nat) (h : k < 8) : (bitsOf b)[k]? = some (b.getLsbD (7 - k)) := by
  match k, h with
  | 0, _ | 1, _ | 2, _ | 3, _ | 4, _ | 5, _ | 6, _ | 7, _ => rfl
  | k + 8, h => omega

namespace Machine

/-- The level of SDO, by the byte in course and the bit of it (R156). -/
theorem PortUnit.sdoBit_eq {u : PortUnit} {n k : Nat} {b : Byte} (hb : u.sdo n = some b) (hk : k < 8) :
    u.sdoBit (8 * n + k) = some (b.getLsbD (7 - k)) := by
  have hd : (8 * n + k) / 8 = n := by omega
  have hm : (8 * n + k) % 8 = k := by omega
  rw [PortUnit.sdoBit, hd, hm, hb]
  exact bitsOf_get b k hk

end Machine

end Sys2Proof
end

