-- ==== Sys2Proof/Laws/State.lean ====
section
/-! SUPPORT. Reading the state after an update: one lemma per component per update. Every one says what a read gives
after a write, so that no proof unfolds a record update. -/

namespace Sys2Proof.Machine

/-! ### A component reads as it was written -/

@[simp] theorem State.slot_setSlot (s : State) (i j : SlotId) (x : Slot) :
    (s.setSlot i x).slot j = if i = j then x else s.slot j := by
  simp [State.slot, State.setSlot, Vector.getElem_set, Fin.ext_iff]

@[simp] theorem State.line_setLine (s : State) (i j : LineId) (x : Line) :
    (s.setLine i x).line j = if i = j then x else s.line j := by
  simp [State.line, State.setLine, Vector.getElem_set, Fin.ext_iff]

@[simp] theorem State.group_setGroup (s : State) (i j : GroupId) (x : Group) :
    (s.setGroup i x).group j = if i = j then x else s.group j := by
  simp [State.group, State.setGroup, Vector.getElem_set, Fin.ext_iff]

@[simp] theorem State.timebase_setTimebase (s : State) (i j : TimebaseId) (x : Timebase) :
    (s.setTimebase i x).timebase j = if i = j then x else s.timebase j := by
  simp [State.timebase, State.setTimebase, Vector.getElem_set, Fin.ext_iff]

@[simp] theorem State.input_setInput (s : State) (i j : InputId) (x : Input) :
    (s.setInput i x).input j = if i = j then x else s.input j := by
  simp [State.input, State.setInput, Vector.getElem_set, Fin.ext_iff]

@[simp] theorem State.port_setPort (s : State) (i j : Port) (x : PortUnit) :
    (s.setPort i x).port j = if i = j then x else s.port j := by
  simp [State.port, State.setPort, Vector.getElem_set, Fin.ext_iff]

@[simp] theorem State.slot_setPermit (s : State) (i j : SlotId) (x : Permit) :
    (s.setPermit i x).slot j = if i = j then { gen := (s.slot j).gen, permit := some x } else s.slot j := by
  by_cases h : i = j <;> simp [State.setPermit, h]

@[simp] theorem State.permit_setPermit (s : State) (i j : SlotId) (x : Permit) :
    (s.setPermit i x).permit j = if i = j then some x else s.permit j := by
  by_cases h : i = j <;> simp [State.permit, h]

@[simp] theorem State.handle_setPermit (s : State) (i j : SlotId) (x : Permit) :
    (s.setPermit i x).handle j = s.handle j := by
  by_cases h : i = j <;> simp [State.handle, h]

@[simp] theorem State.permit_setSlot (s : State) (i j : SlotId) (x : Slot) :
    (s.setSlot i x).permit j = if i = j then x.permit else s.permit j := by
  by_cases h : i = j <;> simp [State.permit, h]

@[simp] theorem State.slot_mapSlots (s : State) (f : SlotId → Slot → Slot) (i : SlotId) :
    (s.mapSlots f).slot i = f i (s.slot i) := by
  simp [State.mapSlots, State.slot]

@[simp] theorem State.permit_mapSlots (s : State) (f : SlotId → Slot → Slot) (i : SlotId) :
    (s.mapSlots f).permit i = (f i (s.slot i)).permit := by
  simp [State.permit]

@[simp] theorem State.line_mapLines (s : State) (f : LineId → Line → Line) (l : LineId) :
    (s.mapLines f).line l = f l (s.line l) := by
  simp [State.mapLines, State.line]

@[simp] theorem State.group_mapGroups (s : State) (f : GroupId → Group → Group) (g : GroupId) :
    (s.mapGroups f).group g = f g (s.group g) := by
  simp [State.mapGroups, State.group]

/-! ### Two states with the same reads are the same -/

theorem State.slots_ext {s t : State} (h : ∀ i, t.slot i = s.slot i) : t.slots = s.slots :=
  Vector.ext fun i hi => h ⟨i, hi⟩

theorem State.lines_ext {s t : State} (h : ∀ l, t.line l = s.line l) : t.lines = s.lines :=
  Vector.ext fun i hi => h ⟨i, hi⟩

theorem State.groups_ext {s t : State} (h : ∀ g, t.group g = s.group g) : t.groups = s.groups :=
  Vector.ext fun i hi => h ⟨i, hi⟩

theorem State.timebases_ext {s t : State} (h : ∀ k, t.timebase k = s.timebase k) : t.timebases = s.timebases :=
  Vector.ext fun i hi => h ⟨i, hi⟩

theorem State.inputs_ext {s t : State} (h : ∀ n, t.input n = s.input n) : t.inputs = s.inputs :=
  Vector.ext fun i hi => h ⟨i, hi⟩

theorem State.ports_ext {s t : State} (h : ∀ p, t.port p = s.port p) : t.ports = s.ports :=
  Vector.ext fun i hi => h ⟨i, hi⟩

/-- Two states are equal when all their parts are. -/
theorem State.eq_of_parts {s t : State} (h1 : ∀ i, t.slot i = s.slot i) (h2 : ∀ l, t.line l = s.line l)
    (h3 : ∀ g, t.group g = s.group g) (h4 : ∀ k, t.timebase k = s.timebase k) (h5 : ∀ n, t.input n = s.input n)
    (h6 : ∀ p, t.port p = s.port p) (h7 : t.lastServed = s.lastServed) (h8 : t.quenchLow = s.quenchLow)
    (h9 : t.latch = s.latch) (h10 : t.resetLow = s.resetLow) (h11 : t.due = s.due) (h12 : t.freeCount = s.freeCount)
    (h13 : t.pending = s.pending) : t = s := by
  have := State.slots_ext h1; have := State.lines_ext h2; have := State.groups_ext h3
  have := State.timebases_ext h4; have := State.inputs_ext h5; have := State.ports_ext h6
  cases s; cases t; simp_all

/-! ### What an update leaves alone -/

@[simp] theorem State.line_setSlot (s : State) (i : SlotId) (x : Slot) (j : LineId) : (s.setSlot i x).line j = s.line j := rfl
@[simp] theorem State.lines_setSlot (s : State) (i : SlotId) (x : Slot) : (s.setSlot i x).lines = s.lines := rfl
@[simp] theorem State.group_setSlot (s : State) (i : SlotId) (x : Slot) (j : GroupId) : (s.setSlot i x).group j = s.group j := rfl
@[simp] theorem State.groups_setSlot (s : State) (i : SlotId) (x : Slot) : (s.setSlot i x).groups = s.groups := rfl
@[simp] theorem State.timebase_setSlot (s : State) (i : SlotId) (x : Slot) (j : TimebaseId) : (s.setSlot i x).timebase j = s.timebase j := rfl
@[simp] theorem State.timebases_setSlot (s : State) (i : SlotId) (x : Slot) : (s.setSlot i x).timebases = s.timebases := rfl
@[simp] theorem State.input_setSlot (s : State) (i : SlotId) (x : Slot) (j : InputId) : (s.setSlot i x).input j = s.input j := rfl
@[simp] theorem State.inputs_setSlot (s : State) (i : SlotId) (x : Slot) : (s.setSlot i x).inputs = s.inputs := rfl
@[simp] theorem State.port_setSlot (s : State) (i : SlotId) (x : Slot) (j : Port) : (s.setSlot i x).port j = s.port j := rfl
@[simp] theorem State.ports_setSlot (s : State) (i : SlotId) (x : Slot) : (s.setSlot i x).ports = s.ports := rfl
@[simp] theorem State.lastServed_setSlot (s : State) (i : SlotId) (x : Slot) : (s.setSlot i x).lastServed = s.lastServed := rfl
@[simp] theorem State.quenchLow_setSlot (s : State) (i : SlotId) (x : Slot) : (s.setSlot i x).quenchLow = s.quenchLow := rfl
@[simp] theorem State.latch_setSlot (s : State) (i : SlotId) (x : Slot) : (s.setSlot i x).latch = s.latch := rfl
@[simp] theorem State.resetLow_setSlot (s : State) (i : SlotId) (x : Slot) : (s.setSlot i x).resetLow = s.resetLow := rfl
@[simp] theorem State.due_setSlot (s : State) (i : SlotId) (x : Slot) : (s.setSlot i x).due = s.due := rfl
@[simp] theorem State.freeCount_setSlot (s : State) (i : SlotId) (x : Slot) : (s.setSlot i x).freeCount = s.freeCount := rfl
@[simp] theorem State.pending_setSlot (s : State) (i : SlotId) (x : Slot) : (s.setSlot i x).pending = s.pending := rfl
@[simp] theorem State.quenched_setSlot (s : State) (i : SlotId) (x : Slot) : (s.setSlot i x).quenched = s.quenched := rfl

@[simp] theorem State.line_setPermit (s : State) (i : SlotId) (x : Permit) (j : LineId) : (s.setPermit i x).line j = s.line j := rfl
@[simp] theorem State.lines_setPermit (s : State) (i : SlotId) (x : Permit) : (s.setPermit i x).lines = s.lines := rfl
@[simp] theorem State.group_setPermit (s : State) (i : SlotId) (x : Permit) (j : GroupId) : (s.setPermit i x).group j = s.group j := rfl
@[simp] theorem State.groups_setPermit (s : State) (i : SlotId) (x : Permit) : (s.setPermit i x).groups = s.groups := rfl
@[simp] theorem State.timebase_setPermit (s : State) (i : SlotId) (x : Permit) (j : TimebaseId) : (s.setPermit i x).timebase j = s.timebase j := rfl
@[simp] theorem State.timebases_setPermit (s : State) (i : SlotId) (x : Permit) : (s.setPermit i x).timebases = s.timebases := rfl
@[simp] theorem State.input_setPermit (s : State) (i : SlotId) (x : Permit) (j : InputId) : (s.setPermit i x).input j = s.input j := rfl
@[simp] theorem State.inputs_setPermit (s : State) (i : SlotId) (x : Permit) : (s.setPermit i x).inputs = s.inputs := rfl
@[simp] theorem State.port_setPermit (s : State) (i : SlotId) (x : Permit) (j : Port) : (s.setPermit i x).port j = s.port j := rfl
@[simp] theorem State.ports_setPermit (s : State) (i : SlotId) (x : Permit) : (s.setPermit i x).ports = s.ports := rfl
@[simp] theorem State.lastServed_setPermit (s : State) (i : SlotId) (x : Permit) : (s.setPermit i x).lastServed = s.lastServed := rfl
@[simp] theorem State.quenchLow_setPermit (s : State) (i : SlotId) (x : Permit) : (s.setPermit i x).quenchLow = s.quenchLow := rfl
@[simp] theorem State.latch_setPermit (s : State) (i : SlotId) (x : Permit) : (s.setPermit i x).latch = s.latch := rfl
@[simp] theorem State.resetLow_setPermit (s : State) (i : SlotId) (x : Permit) : (s.setPermit i x).resetLow = s.resetLow := rfl
@[simp] theorem State.due_setPermit (s : State) (i : SlotId) (x : Permit) : (s.setPermit i x).due = s.due := rfl
@[simp] theorem State.freeCount_setPermit (s : State) (i : SlotId) (x : Permit) : (s.setPermit i x).freeCount = s.freeCount := rfl
@[simp] theorem State.pending_setPermit (s : State) (i : SlotId) (x : Permit) : (s.setPermit i x).pending = s.pending := rfl
@[simp] theorem State.quenched_setPermit (s : State) (i : SlotId) (x : Permit) : (s.setPermit i x).quenched = s.quenched := rfl

@[simp] theorem State.slot_setLine (s : State) (l : LineId) (x : Line) (j : SlotId) : (s.setLine l x).slot j = s.slot j := rfl
@[simp] theorem State.slots_setLine (s : State) (l : LineId) (x : Line) : (s.setLine l x).slots = s.slots := rfl
@[simp] theorem State.permit_setLine (s : State) (l : LineId) (x : Line) (j : SlotId) : (s.setLine l x).permit j = s.permit j := rfl
@[simp] theorem State.handle_setLine (s : State) (l : LineId) (x : Line) (j : SlotId) : (s.setLine l x).handle j = s.handle j := rfl
@[simp] theorem State.resolve_setLine (s : State) (l : LineId) (x : Line) (h : Handle) : (s.setLine l x).resolve h = s.resolve h := rfl
@[simp] theorem State.group_setLine (s : State) (l : LineId) (x : Line) (j : GroupId) : (s.setLine l x).group j = s.group j := rfl
@[simp] theorem State.groups_setLine (s : State) (l : LineId) (x : Line) : (s.setLine l x).groups = s.groups := rfl
@[simp] theorem State.timebase_setLine (s : State) (l : LineId) (x : Line) (j : TimebaseId) : (s.setLine l x).timebase j = s.timebase j := rfl
@[simp] theorem State.timebases_setLine (s : State) (l : LineId) (x : Line) : (s.setLine l x).timebases = s.timebases := rfl
@[simp] theorem State.input_setLine (s : State) (l : LineId) (x : Line) (j : InputId) : (s.setLine l x).input j = s.input j := rfl
@[simp] theorem State.inputs_setLine (s : State) (l : LineId) (x : Line) : (s.setLine l x).inputs = s.inputs := rfl
@[simp] theorem State.port_setLine (s : State) (l : LineId) (x : Line) (j : Port) : (s.setLine l x).port j = s.port j := rfl
@[simp] theorem State.ports_setLine (s : State) (l : LineId) (x : Line) : (s.setLine l x).ports = s.ports := rfl
@[simp] theorem State.lastServed_setLine (s : State) (l : LineId) (x : Line) : (s.setLine l x).lastServed = s.lastServed := rfl
@[simp] theorem State.quenchLow_setLine (s : State) (l : LineId) (x : Line) : (s.setLine l x).quenchLow = s.quenchLow := rfl
@[simp] theorem State.latch_setLine (s : State) (l : LineId) (x : Line) : (s.setLine l x).latch = s.latch := rfl
@[simp] theorem State.resetLow_setLine (s : State) (l : LineId) (x : Line) : (s.setLine l x).resetLow = s.resetLow := rfl
@[simp] theorem State.due_setLine (s : State) (l : LineId) (x : Line) : (s.setLine l x).due = s.due := rfl
@[simp] theorem State.freeCount_setLine (s : State) (l : LineId) (x : Line) : (s.setLine l x).freeCount = s.freeCount := rfl
@[simp] theorem State.pending_setLine (s : State) (l : LineId) (x : Line) : (s.setLine l x).pending = s.pending := rfl
@[simp] theorem State.quenched_setLine (s : State) (l : LineId) (x : Line) : (s.setLine l x).quenched = s.quenched := rfl

@[simp] theorem State.slot_setGroup (s : State) (g : GroupId) (x : Group) (j : SlotId) : (s.setGroup g x).slot j = s.slot j := rfl
@[simp] theorem State.slots_setGroup (s : State) (g : GroupId) (x : Group) : (s.setGroup g x).slots = s.slots := rfl
@[simp] theorem State.permit_setGroup (s : State) (g : GroupId) (x : Group) (j : SlotId) : (s.setGroup g x).permit j = s.permit j := rfl
@[simp] theorem State.handle_setGroup (s : State) (g : GroupId) (x : Group) (j : SlotId) : (s.setGroup g x).handle j = s.handle j := rfl
@[simp] theorem State.resolve_setGroup (s : State) (g : GroupId) (x : Group) (h : Handle) : (s.setGroup g x).resolve h = s.resolve h := rfl
@[simp] theorem State.line_setGroup (s : State) (g : GroupId) (x : Group) (j : LineId) : (s.setGroup g x).line j = s.line j := rfl
@[simp] theorem State.lines_setGroup (s : State) (g : GroupId) (x : Group) : (s.setGroup g x).lines = s.lines := rfl
@[simp] theorem State.timebase_setGroup (s : State) (g : GroupId) (x : Group) (j : TimebaseId) : (s.setGroup g x).timebase j = s.timebase j := rfl
@[simp] theorem State.timebases_setGroup (s : State) (g : GroupId) (x : Group) : (s.setGroup g x).timebases = s.timebases := rfl
@[simp] theorem State.input_setGroup (s : State) (g : GroupId) (x : Group) (j : InputId) : (s.setGroup g x).input j = s.input j := rfl
@[simp] theorem State.inputs_setGroup (s : State) (g : GroupId) (x : Group) : (s.setGroup g x).inputs = s.inputs := rfl
@[simp] theorem State.port_setGroup (s : State) (g : GroupId) (x : Group) (j : Port) : (s.setGroup g x).port j = s.port j := rfl
@[simp] theorem State.ports_setGroup (s : State) (g : GroupId) (x : Group) : (s.setGroup g x).ports = s.ports := rfl
@[simp] theorem State.lastServed_setGroup (s : State) (g : GroupId) (x : Group) : (s.setGroup g x).lastServed = s.lastServed := rfl
@[simp] theorem State.quenchLow_setGroup (s : State) (g : GroupId) (x : Group) : (s.setGroup g x).quenchLow = s.quenchLow := rfl
@[simp] theorem State.latch_setGroup (s : State) (g : GroupId) (x : Group) : (s.setGroup g x).latch = s.latch := rfl
@[simp] theorem State.resetLow_setGroup (s : State) (g : GroupId) (x : Group) : (s.setGroup g x).resetLow = s.resetLow := rfl
@[simp] theorem State.due_setGroup (s : State) (g : GroupId) (x : Group) : (s.setGroup g x).due = s.due := rfl
@[simp] theorem State.freeCount_setGroup (s : State) (g : GroupId) (x : Group) : (s.setGroup g x).freeCount = s.freeCount := rfl
@[simp] theorem State.pending_setGroup (s : State) (g : GroupId) (x : Group) : (s.setGroup g x).pending = s.pending := rfl
@[simp] theorem State.quenched_setGroup (s : State) (g : GroupId) (x : Group) : (s.setGroup g x).quenched = s.quenched := rfl

@[simp] theorem State.slot_setTimebase (s : State) (k : TimebaseId) (x : Timebase) (j : SlotId) : (s.setTimebase k x).slot j = s.slot j := rfl
@[simp] theorem State.slots_setTimebase (s : State) (k : TimebaseId) (x : Timebase) : (s.setTimebase k x).slots = s.slots := rfl
@[simp] theorem State.permit_setTimebase (s : State) (k : TimebaseId) (x : Timebase) (j : SlotId) : (s.setTimebase k x).permit j = s.permit j := rfl
@[simp] theorem State.handle_setTimebase (s : State) (k : TimebaseId) (x : Timebase) (j : SlotId) : (s.setTimebase k x).handle j = s.handle j := rfl
@[simp] theorem State.resolve_setTimebase (s : State) (k : TimebaseId) (x : Timebase) (h : Handle) : (s.setTimebase k x).resolve h = s.resolve h := rfl
@[simp] theorem State.line_setTimebase (s : State) (k : TimebaseId) (x : Timebase) (j : LineId) : (s.setTimebase k x).line j = s.line j := rfl
@[simp] theorem State.lines_setTimebase (s : State) (k : TimebaseId) (x : Timebase) : (s.setTimebase k x).lines = s.lines := rfl
@[simp] theorem State.group_setTimebase (s : State) (k : TimebaseId) (x : Timebase) (j : GroupId) : (s.setTimebase k x).group j = s.group j := rfl
@[simp] theorem State.groups_setTimebase (s : State) (k : TimebaseId) (x : Timebase) : (s.setTimebase k x).groups = s.groups := rfl
@[simp] theorem State.input_setTimebase (s : State) (k : TimebaseId) (x : Timebase) (j : InputId) : (s.setTimebase k x).input j = s.input j := rfl
@[simp] theorem State.inputs_setTimebase (s : State) (k : TimebaseId) (x : Timebase) : (s.setTimebase k x).inputs = s.inputs := rfl
@[simp] theorem State.port_setTimebase (s : State) (k : TimebaseId) (x : Timebase) (j : Port) : (s.setTimebase k x).port j = s.port j := rfl
@[simp] theorem State.ports_setTimebase (s : State) (k : TimebaseId) (x : Timebase) : (s.setTimebase k x).ports = s.ports := rfl
@[simp] theorem State.lastServed_setTimebase (s : State) (k : TimebaseId) (x : Timebase) : (s.setTimebase k x).lastServed = s.lastServed := rfl
@[simp] theorem State.quenchLow_setTimebase (s : State) (k : TimebaseId) (x : Timebase) : (s.setTimebase k x).quenchLow = s.quenchLow := rfl
@[simp] theorem State.latch_setTimebase (s : State) (k : TimebaseId) (x : Timebase) : (s.setTimebase k x).latch = s.latch := rfl
@[simp] theorem State.resetLow_setTimebase (s : State) (k : TimebaseId) (x : Timebase) : (s.setTimebase k x).resetLow = s.resetLow := rfl
@[simp] theorem State.due_setTimebase (s : State) (k : TimebaseId) (x : Timebase) : (s.setTimebase k x).due = s.due := rfl
@[simp] theorem State.freeCount_setTimebase (s : State) (k : TimebaseId) (x : Timebase) : (s.setTimebase k x).freeCount = s.freeCount := rfl
@[simp] theorem State.pending_setTimebase (s : State) (k : TimebaseId) (x : Timebase) : (s.setTimebase k x).pending = s.pending := rfl
@[simp] theorem State.quenched_setTimebase (s : State) (k : TimebaseId) (x : Timebase) : (s.setTimebase k x).quenched = s.quenched := rfl

@[simp] theorem State.slot_setInput (s : State) (n : InputId) (x : Input) (j : SlotId) : (s.setInput n x).slot j = s.slot j := rfl
@[simp] theorem State.slots_setInput (s : State) (n : InputId) (x : Input) : (s.setInput n x).slots = s.slots := rfl
@[simp] theorem State.permit_setInput (s : State) (n : InputId) (x : Input) (j : SlotId) : (s.setInput n x).permit j = s.permit j := rfl
@[simp] theorem State.handle_setInput (s : State) (n : InputId) (x : Input) (j : SlotId) : (s.setInput n x).handle j = s.handle j := rfl
@[simp] theorem State.resolve_setInput (s : State) (n : InputId) (x : Input) (h : Handle) : (s.setInput n x).resolve h = s.resolve h := rfl
@[simp] theorem State.line_setInput (s : State) (n : InputId) (x : Input) (j : LineId) : (s.setInput n x).line j = s.line j := rfl
@[simp] theorem State.lines_setInput (s : State) (n : InputId) (x : Input) : (s.setInput n x).lines = s.lines := rfl
@[simp] theorem State.group_setInput (s : State) (n : InputId) (x : Input) (j : GroupId) : (s.setInput n x).group j = s.group j := rfl
@[simp] theorem State.groups_setInput (s : State) (n : InputId) (x : Input) : (s.setInput n x).groups = s.groups := rfl
@[simp] theorem State.timebase_setInput (s : State) (n : InputId) (x : Input) (j : TimebaseId) : (s.setInput n x).timebase j = s.timebase j := rfl
@[simp] theorem State.timebases_setInput (s : State) (n : InputId) (x : Input) : (s.setInput n x).timebases = s.timebases := rfl
@[simp] theorem State.port_setInput (s : State) (n : InputId) (x : Input) (j : Port) : (s.setInput n x).port j = s.port j := rfl
@[simp] theorem State.ports_setInput (s : State) (n : InputId) (x : Input) : (s.setInput n x).ports = s.ports := rfl
@[simp] theorem State.lastServed_setInput (s : State) (n : InputId) (x : Input) : (s.setInput n x).lastServed = s.lastServed := rfl
@[simp] theorem State.quenchLow_setInput (s : State) (n : InputId) (x : Input) : (s.setInput n x).quenchLow = s.quenchLow := rfl
@[simp] theorem State.latch_setInput (s : State) (n : InputId) (x : Input) : (s.setInput n x).latch = s.latch := rfl
@[simp] theorem State.resetLow_setInput (s : State) (n : InputId) (x : Input) : (s.setInput n x).resetLow = s.resetLow := rfl
@[simp] theorem State.due_setInput (s : State) (n : InputId) (x : Input) : (s.setInput n x).due = s.due := rfl
@[simp] theorem State.freeCount_setInput (s : State) (n : InputId) (x : Input) : (s.setInput n x).freeCount = s.freeCount := rfl
@[simp] theorem State.pending_setInput (s : State) (n : InputId) (x : Input) : (s.setInput n x).pending = s.pending := rfl
@[simp] theorem State.quenched_setInput (s : State) (n : InputId) (x : Input) : (s.setInput n x).quenched = s.quenched := rfl

@[simp] theorem State.slot_setPort (s : State) (p : Port) (x : PortUnit) (j : SlotId) : (s.setPort p x).slot j = s.slot j := rfl
@[simp] theorem State.slots_setPort (s : State) (p : Port) (x : PortUnit) : (s.setPort p x).slots = s.slots := rfl
@[simp] theorem State.permit_setPort (s : State) (p : Port) (x : PortUnit) (j : SlotId) : (s.setPort p x).permit j = s.permit j := rfl
@[simp] theorem State.handle_setPort (s : State) (p : Port) (x : PortUnit) (j : SlotId) : (s.setPort p x).handle j = s.handle j := rfl
@[simp] theorem State.resolve_setPort (s : State) (p : Port) (x : PortUnit) (h : Handle) : (s.setPort p x).resolve h = s.resolve h := rfl
@[simp] theorem State.line_setPort (s : State) (p : Port) (x : PortUnit) (j : LineId) : (s.setPort p x).line j = s.line j := rfl
@[simp] theorem State.lines_setPort (s : State) (p : Port) (x : PortUnit) : (s.setPort p x).lines = s.lines := rfl
@[simp] theorem State.group_setPort (s : State) (p : Port) (x : PortUnit) (j : GroupId) : (s.setPort p x).group j = s.group j := rfl
@[simp] theorem State.groups_setPort (s : State) (p : Port) (x : PortUnit) : (s.setPort p x).groups = s.groups := rfl
@[simp] theorem State.timebase_setPort (s : State) (p : Port) (x : PortUnit) (j : TimebaseId) : (s.setPort p x).timebase j = s.timebase j := rfl
@[simp] theorem State.timebases_setPort (s : State) (p : Port) (x : PortUnit) : (s.setPort p x).timebases = s.timebases := rfl
@[simp] theorem State.input_setPort (s : State) (p : Port) (x : PortUnit) (j : InputId) : (s.setPort p x).input j = s.input j := rfl
@[simp] theorem State.inputs_setPort (s : State) (p : Port) (x : PortUnit) : (s.setPort p x).inputs = s.inputs := rfl
@[simp] theorem State.lastServed_setPort (s : State) (p : Port) (x : PortUnit) : (s.setPort p x).lastServed = s.lastServed := rfl
@[simp] theorem State.quenchLow_setPort (s : State) (p : Port) (x : PortUnit) : (s.setPort p x).quenchLow = s.quenchLow := rfl
@[simp] theorem State.latch_setPort (s : State) (p : Port) (x : PortUnit) : (s.setPort p x).latch = s.latch := rfl
@[simp] theorem State.resetLow_setPort (s : State) (p : Port) (x : PortUnit) : (s.setPort p x).resetLow = s.resetLow := rfl
@[simp] theorem State.due_setPort (s : State) (p : Port) (x : PortUnit) : (s.setPort p x).due = s.due := rfl
@[simp] theorem State.freeCount_setPort (s : State) (p : Port) (x : PortUnit) : (s.setPort p x).freeCount = s.freeCount := rfl
@[simp] theorem State.pending_setPort (s : State) (p : Port) (x : PortUnit) : (s.setPort p x).pending = s.pending := rfl
@[simp] theorem State.quenched_setPort (s : State) (p : Port) (x : PortUnit) : (s.setPort p x).quenched = s.quenched := rfl

@[simp] theorem State.line_mapSlots (s : State) (f : SlotId → Slot → Slot) (j : LineId) : (s.mapSlots f).line j = s.line j := by
  simp only [State.mapSlots, State.line]
@[simp] theorem State.lines_mapSlots (s : State) (f : SlotId → Slot → Slot) : (s.mapSlots f).lines = s.lines := by
  simp only [State.mapSlots]
@[simp] theorem State.group_mapSlots (s : State) (f : SlotId → Slot → Slot) (j : GroupId) : (s.mapSlots f).group j = s.group j := by
  simp only [State.mapSlots, State.group]
@[simp] theorem State.groups_mapSlots (s : State) (f : SlotId → Slot → Slot) : (s.mapSlots f).groups = s.groups := by
  simp only [State.mapSlots]
@[simp] theorem State.timebase_mapSlots (s : State) (f : SlotId → Slot → Slot) (j : TimebaseId) : (s.mapSlots f).timebase j = s.timebase j := by
  simp only [State.mapSlots, State.timebase]
@[simp] theorem State.timebases_mapSlots (s : State) (f : SlotId → Slot → Slot) : (s.mapSlots f).timebases = s.timebases := by
  simp only [State.mapSlots]
@[simp] theorem State.input_mapSlots (s : State) (f : SlotId → Slot → Slot) (j : InputId) : (s.mapSlots f).input j = s.input j := by
  simp only [State.mapSlots, State.input]
@[simp] theorem State.inputs_mapSlots (s : State) (f : SlotId → Slot → Slot) : (s.mapSlots f).inputs = s.inputs := by
  simp only [State.mapSlots]
@[simp] theorem State.port_mapSlots (s : State) (f : SlotId → Slot → Slot) (j : Port) : (s.mapSlots f).port j = s.port j := by
  simp only [State.mapSlots, State.port]
@[simp] theorem State.ports_mapSlots (s : State) (f : SlotId → Slot → Slot) : (s.mapSlots f).ports = s.ports := by
  simp only [State.mapSlots]
@[simp] theorem State.lastServed_mapSlots (s : State) (f : SlotId → Slot → Slot) : (s.mapSlots f).lastServed = s.lastServed := by
  simp only [State.mapSlots]
@[simp] theorem State.quenchLow_mapSlots (s : State) (f : SlotId → Slot → Slot) : (s.mapSlots f).quenchLow = s.quenchLow := by
  simp only [State.mapSlots]
@[simp] theorem State.latch_mapSlots (s : State) (f : SlotId → Slot → Slot) : (s.mapSlots f).latch = s.latch := by
  simp only [State.mapSlots]
@[simp] theorem State.resetLow_mapSlots (s : State) (f : SlotId → Slot → Slot) : (s.mapSlots f).resetLow = s.resetLow := by
  simp only [State.mapSlots]
@[simp] theorem State.due_mapSlots (s : State) (f : SlotId → Slot → Slot) : (s.mapSlots f).due = s.due := by
  simp only [State.mapSlots]
@[simp] theorem State.freeCount_mapSlots (s : State) (f : SlotId → Slot → Slot) : (s.mapSlots f).freeCount = s.freeCount := by
  simp only [State.mapSlots]
@[simp] theorem State.pending_mapSlots (s : State) (f : SlotId → Slot → Slot) : (s.mapSlots f).pending = s.pending := by
  simp only [State.mapSlots]
@[simp] theorem State.quenched_mapSlots (s : State) (f : SlotId → Slot → Slot) : (s.mapSlots f).quenched = s.quenched := by
  simp only [State.mapSlots, State.quenched]

@[simp] theorem State.slot_mapLines (s : State) (f : LineId → Line → Line) (j : SlotId) : (s.mapLines f).slot j = s.slot j := by
  simp only [State.mapLines, State.slot]
@[simp] theorem State.slots_mapLines (s : State) (f : LineId → Line → Line) : (s.mapLines f).slots = s.slots := by
  simp only [State.mapLines]
@[simp] theorem State.permit_mapLines (s : State) (f : LineId → Line → Line) (j : SlotId) : (s.mapLines f).permit j = s.permit j := by
  simp only [State.mapLines, State.permit, State.slot]
@[simp] theorem State.handle_mapLines (s : State) (f : LineId → Line → Line) (j : SlotId) : (s.mapLines f).handle j = s.handle j := by
  simp only [State.mapLines, State.handle, State.slot]
@[simp] theorem State.resolve_mapLines (s : State) (f : LineId → Line → Line) (h : Handle) : (s.mapLines f).resolve h = s.resolve h := by
  simp [State.resolve]
@[simp] theorem State.group_mapLines (s : State) (f : LineId → Line → Line) (j : GroupId) : (s.mapLines f).group j = s.group j := by
  simp only [State.mapLines, State.group]
@[simp] theorem State.groups_mapLines (s : State) (f : LineId → Line → Line) : (s.mapLines f).groups = s.groups := by
  simp only [State.mapLines]
@[simp] theorem State.timebase_mapLines (s : State) (f : LineId → Line → Line) (j : TimebaseId) : (s.mapLines f).timebase j = s.timebase j := by
  simp only [State.mapLines, State.timebase]
@[simp] theorem State.timebases_mapLines (s : State) (f : LineId → Line → Line) : (s.mapLines f).timebases = s.timebases := by
  simp only [State.mapLines]
@[simp] theorem State.input_mapLines (s : State) (f : LineId → Line → Line) (j : InputId) : (s.mapLines f).input j = s.input j := by
  simp only [State.mapLines, State.input]
@[simp] theorem State.inputs_mapLines (s : State) (f : LineId → Line → Line) : (s.mapLines f).inputs = s.inputs := by
  simp only [State.mapLines]
@[simp] theorem State.port_mapLines (s : State) (f : LineId → Line → Line) (j : Port) : (s.mapLines f).port j = s.port j := by
  simp only [State.mapLines, State.port]
@[simp] theorem State.ports_mapLines (s : State) (f : LineId → Line → Line) : (s.mapLines f).ports = s.ports := by
  simp only [State.mapLines]
@[simp] theorem State.lastServed_mapLines (s : State) (f : LineId → Line → Line) : (s.mapLines f).lastServed = s.lastServed := by
  simp only [State.mapLines]
@[simp] theorem State.quenchLow_mapLines (s : State) (f : LineId → Line → Line) : (s.mapLines f).quenchLow = s.quenchLow := by
  simp only [State.mapLines]
@[simp] theorem State.latch_mapLines (s : State) (f : LineId → Line → Line) : (s.mapLines f).latch = s.latch := by
  simp only [State.mapLines]
@[simp] theorem State.resetLow_mapLines (s : State) (f : LineId → Line → Line) : (s.mapLines f).resetLow = s.resetLow := by
  simp only [State.mapLines]
@[simp] theorem State.due_mapLines (s : State) (f : LineId → Line → Line) : (s.mapLines f).due = s.due := by
  simp only [State.mapLines]
@[simp] theorem State.freeCount_mapLines (s : State) (f : LineId → Line → Line) : (s.mapLines f).freeCount = s.freeCount := by
  simp only [State.mapLines]
@[simp] theorem State.pending_mapLines (s : State) (f : LineId → Line → Line) : (s.mapLines f).pending = s.pending := by
  simp only [State.mapLines]
@[simp] theorem State.quenched_mapLines (s : State) (f : LineId → Line → Line) : (s.mapLines f).quenched = s.quenched := by
  simp only [State.mapLines, State.quenched]

@[simp] theorem State.slot_mapGroups (s : State) (f : GroupId → Group → Group) (j : SlotId) : (s.mapGroups f).slot j = s.slot j := by
  simp only [State.mapGroups, State.slot]
@[simp] theorem State.slots_mapGroups (s : State) (f : GroupId → Group → Group) : (s.mapGroups f).slots = s.slots := by
  simp only [State.mapGroups]
@[simp] theorem State.permit_mapGroups (s : State) (f : GroupId → Group → Group) (j : SlotId) : (s.mapGroups f).permit j = s.permit j := by
  simp only [State.mapGroups, State.permit, State.slot]
@[simp] theorem State.handle_mapGroups (s : State) (f : GroupId → Group → Group) (j : SlotId) : (s.mapGroups f).handle j = s.handle j := by
  simp only [State.mapGroups, State.handle, State.slot]
@[simp] theorem State.resolve_mapGroups (s : State) (f : GroupId → Group → Group) (h : Handle) : (s.mapGroups f).resolve h = s.resolve h := by
  simp [State.resolve]
@[simp] theorem State.line_mapGroups (s : State) (f : GroupId → Group → Group) (j : LineId) : (s.mapGroups f).line j = s.line j := by
  simp only [State.mapGroups, State.line]
@[simp] theorem State.lines_mapGroups (s : State) (f : GroupId → Group → Group) : (s.mapGroups f).lines = s.lines := by
  simp only [State.mapGroups]
@[simp] theorem State.timebase_mapGroups (s : State) (f : GroupId → Group → Group) (j : TimebaseId) : (s.mapGroups f).timebase j = s.timebase j := by
  simp only [State.mapGroups, State.timebase]
@[simp] theorem State.timebases_mapGroups (s : State) (f : GroupId → Group → Group) : (s.mapGroups f).timebases = s.timebases := by
  simp only [State.mapGroups]
@[simp] theorem State.input_mapGroups (s : State) (f : GroupId → Group → Group) (j : InputId) : (s.mapGroups f).input j = s.input j := by
  simp only [State.mapGroups, State.input]
@[simp] theorem State.inputs_mapGroups (s : State) (f : GroupId → Group → Group) : (s.mapGroups f).inputs = s.inputs := by
  simp only [State.mapGroups]
@[simp] theorem State.port_mapGroups (s : State) (f : GroupId → Group → Group) (j : Port) : (s.mapGroups f).port j = s.port j := by
  simp only [State.mapGroups, State.port]
@[simp] theorem State.ports_mapGroups (s : State) (f : GroupId → Group → Group) : (s.mapGroups f).ports = s.ports := by
  simp only [State.mapGroups]
@[simp] theorem State.lastServed_mapGroups (s : State) (f : GroupId → Group → Group) : (s.mapGroups f).lastServed = s.lastServed := by
  simp only [State.mapGroups]
@[simp] theorem State.quenchLow_mapGroups (s : State) (f : GroupId → Group → Group) : (s.mapGroups f).quenchLow = s.quenchLow := by
  simp only [State.mapGroups]
@[simp] theorem State.latch_mapGroups (s : State) (f : GroupId → Group → Group) : (s.mapGroups f).latch = s.latch := by
  simp only [State.mapGroups]
@[simp] theorem State.resetLow_mapGroups (s : State) (f : GroupId → Group → Group) : (s.mapGroups f).resetLow = s.resetLow := by
  simp only [State.mapGroups]
@[simp] theorem State.due_mapGroups (s : State) (f : GroupId → Group → Group) : (s.mapGroups f).due = s.due := by
  simp only [State.mapGroups]
@[simp] theorem State.freeCount_mapGroups (s : State) (f : GroupId → Group → Group) : (s.mapGroups f).freeCount = s.freeCount := by
  simp only [State.mapGroups]
@[simp] theorem State.pending_mapGroups (s : State) (f : GroupId → Group → Group) : (s.mapGroups f).pending = s.pending := by
  simp only [State.mapGroups]
@[simp] theorem State.quenched_mapGroups (s : State) (f : GroupId → Group → Group) : (s.mapGroups f).quenched = s.quenched := by
  simp only [State.mapGroups, State.quenched]

@[simp] theorem State.slot_drawn (s : State) (j : SlotId) : s.drawn.slot j = s.slot j := rfl
@[simp] theorem State.slots_drawn (s : State) : s.drawn.slots = s.slots := rfl
@[simp] theorem State.permit_drawn (s : State) (j : SlotId) : s.drawn.permit j = s.permit j := rfl
@[simp] theorem State.handle_drawn (s : State) (j : SlotId) : s.drawn.handle j = s.handle j := rfl
@[simp] theorem State.resolve_drawn (s : State) (h : Handle) : s.drawn.resolve h = s.resolve h := rfl
@[simp] theorem State.line_drawn (s : State) (j : LineId) : s.drawn.line j = s.line j := rfl
@[simp] theorem State.lines_drawn (s : State) : s.drawn.lines = s.lines := rfl
@[simp] theorem State.group_drawn (s : State) (j : GroupId) : s.drawn.group j = s.group j := rfl
@[simp] theorem State.groups_drawn (s : State) : s.drawn.groups = s.groups := rfl
@[simp] theorem State.timebase_drawn (s : State) (j : TimebaseId) : s.drawn.timebase j = s.timebase j := rfl
@[simp] theorem State.timebases_drawn (s : State) : s.drawn.timebases = s.timebases := rfl
@[simp] theorem State.input_drawn (s : State) (j : InputId) : s.drawn.input j = s.input j := rfl
@[simp] theorem State.inputs_drawn (s : State) : s.drawn.inputs = s.inputs := rfl
@[simp] theorem State.port_drawn (s : State) (j : Port) : s.drawn.port j = s.port j := rfl
@[simp] theorem State.ports_drawn (s : State) : s.drawn.ports = s.ports := rfl
@[simp] theorem State.lastServed_drawn (s : State) : s.drawn.lastServed = s.lastServed := rfl
@[simp] theorem State.quenchLow_drawn (s : State) : s.drawn.quenchLow = s.quenchLow := rfl
@[simp] theorem State.latch_drawn (s : State) : s.drawn.latch = s.latch := rfl
@[simp] theorem State.resetLow_drawn (s : State) : s.drawn.resetLow = s.resetLow := rfl
@[simp] theorem State.due_drawn (s : State) : s.drawn.due = s.due := rfl
@[simp] theorem State.pending_drawn (s : State) : s.drawn.pending = s.pending := rfl
@[simp] theorem State.quenched_drawn (s : State) : s.drawn.quenched = s.quenched := rfl

@[simp] theorem State.freeCount_drawn (s : State) : s.drawn.freeCount = s.freeCount + 1 := rfl

/-! ### The queue of commands and the happenings due -/

@[simp] theorem State.slot_with_pending (s : State) (q : List Instr) (j : SlotId) : State.slot { s with pending := q } j = s.slot j := rfl
@[simp] theorem State.line_with_pending (s : State) (q : List Instr) (j : LineId) : State.line { s with pending := q } j = s.line j := rfl
@[simp] theorem State.group_with_pending (s : State) (q : List Instr) (j : GroupId) : State.group { s with pending := q } j = s.group j := rfl
@[simp] theorem State.timebase_with_pending (s : State) (q : List Instr) (j : TimebaseId) : State.timebase { s with pending := q } j = s.timebase j := rfl
@[simp] theorem State.input_with_pending (s : State) (q : List Instr) (j : InputId) : State.input { s with pending := q } j = s.input j := rfl
@[simp] theorem State.port_with_pending (s : State) (q : List Instr) (j : Port) : State.port { s with pending := q } j = s.port j := rfl
@[simp] theorem State.permit_with_pending (s : State) (q : List Instr) (j : SlotId) : State.permit { s with pending := q } j = s.permit j := rfl
@[simp] theorem State.handle_with_pending (s : State) (q : List Instr) (j : SlotId) : State.handle { s with pending := q } j = s.handle j := rfl
@[simp] theorem State.slot_with_due (s : State) (d : List Due) (j : SlotId) : State.slot { s with due := d } j = s.slot j := rfl
@[simp] theorem State.line_with_due (s : State) (d : List Due) (j : LineId) : State.line { s with due := d } j = s.line j := rfl
@[simp] theorem State.group_with_due (s : State) (d : List Due) (j : GroupId) : State.group { s with due := d } j = s.group j := rfl
@[simp] theorem State.timebase_with_due (s : State) (d : List Due) (j : TimebaseId) : State.timebase { s with due := d } j = s.timebase j := rfl
@[simp] theorem State.input_with_due (s : State) (d : List Due) (j : InputId) : State.input { s with due := d } j = s.input j := rfl
@[simp] theorem State.port_with_due (s : State) (d : List Due) (j : Port) : State.port { s with due := d } j = s.port j := rfl
@[simp] theorem State.permit_with_due (s : State) (d : List Due) (j : SlotId) : State.permit { s with due := d } j = s.permit j := rfl
@[simp] theorem State.handle_with_due (s : State) (d : List Due) (j : SlotId) : State.handle { s with due := d } j = s.handle j := rfl

/-! ### Withdrawal and delivery change nothing but what is due -/

@[simp] theorem State.slot_withdraw (s : State) (f : Due → Bool) (j : SlotId) : (s.withdraw f).slot j = s.slot j := rfl
@[simp] theorem State.permit_withdraw (s : State) (f : Due → Bool) (j : SlotId) : (s.withdraw f).permit j = s.permit j := rfl
@[simp] theorem State.handle_withdraw (s : State) (f : Due → Bool) (j : SlotId) : (s.withdraw f).handle j = s.handle j := rfl
@[simp] theorem State.resolve_withdraw (s : State) (f : Due → Bool) (h : Handle) : (s.withdraw f).resolve h = s.resolve h := rfl
@[simp] theorem State.line_withdraw (s : State) (f : Due → Bool) (j : LineId) : (s.withdraw f).line j = s.line j := rfl
@[simp] theorem State.group_withdraw (s : State) (f : Due → Bool) (j : GroupId) : (s.withdraw f).group j = s.group j := rfl
@[simp] theorem State.timebase_withdraw (s : State) (f : Due → Bool) (j : TimebaseId) : (s.withdraw f).timebase j = s.timebase j := rfl
@[simp] theorem State.input_withdraw (s : State) (f : Due → Bool) (j : InputId) : (s.withdraw f).input j = s.input j := rfl
@[simp] theorem State.port_withdraw (s : State) (f : Due → Bool) (j : Port) : (s.withdraw f).port j = s.port j := rfl
@[simp] theorem State.slots_withdraw (s : State) (f : Due → Bool) : (s.withdraw f).slots = s.slots := rfl
@[simp] theorem State.lines_withdraw (s : State) (f : Due → Bool) : (s.withdraw f).lines = s.lines := rfl
@[simp] theorem State.groups_withdraw (s : State) (f : Due → Bool) : (s.withdraw f).groups = s.groups := rfl
@[simp] theorem State.timebases_withdraw (s : State) (f : Due → Bool) : (s.withdraw f).timebases = s.timebases := rfl
@[simp] theorem State.inputs_withdraw (s : State) (f : Due → Bool) : (s.withdraw f).inputs = s.inputs := rfl
@[simp] theorem State.ports_withdraw (s : State) (f : Due → Bool) : (s.withdraw f).ports = s.ports := rfl
@[simp] theorem State.lastServed_withdraw (s : State) (f : Due → Bool) : (s.withdraw f).lastServed = s.lastServed := rfl
@[simp] theorem State.quenchLow_withdraw (s : State) (f : Due → Bool) : (s.withdraw f).quenchLow = s.quenchLow := rfl
@[simp] theorem State.latch_withdraw (s : State) (f : Due → Bool) : (s.withdraw f).latch = s.latch := rfl
@[simp] theorem State.resetLow_withdraw (s : State) (f : Due → Bool) : (s.withdraw f).resetLow = s.resetLow := rfl
@[simp] theorem State.freeCount_withdraw (s : State) (f : Due → Bool) : (s.withdraw f).freeCount = s.freeCount := rfl
@[simp] theorem State.pending_withdraw (s : State) (f : Due → Bool) : (s.withdraw f).pending = s.pending := rfl
@[simp] theorem State.quenched_withdraw (s : State) (f : Due → Bool) : (s.withdraw f).quenched = s.quenched := rfl

@[simp] theorem State.slot_deliver (s : State) (ds : List Due) (j : SlotId) : (s.deliver ds).slot j = s.slot j := rfl
@[simp] theorem State.permit_deliver (s : State) (ds : List Due) (j : SlotId) : (s.deliver ds).permit j = s.permit j := rfl
@[simp] theorem State.handle_deliver (s : State) (ds : List Due) (j : SlotId) : (s.deliver ds).handle j = s.handle j := rfl
@[simp] theorem State.resolve_deliver (s : State) (ds : List Due) (h : Handle) : (s.deliver ds).resolve h = s.resolve h := rfl
@[simp] theorem State.line_deliver (s : State) (ds : List Due) (j : LineId) : (s.deliver ds).line j = s.line j := rfl
@[simp] theorem State.group_deliver (s : State) (ds : List Due) (j : GroupId) : (s.deliver ds).group j = s.group j := rfl
@[simp] theorem State.timebase_deliver (s : State) (ds : List Due) (j : TimebaseId) : (s.deliver ds).timebase j = s.timebase j := rfl
@[simp] theorem State.input_deliver (s : State) (ds : List Due) (j : InputId) : (s.deliver ds).input j = s.input j := rfl
@[simp] theorem State.port_deliver (s : State) (ds : List Due) (j : Port) : (s.deliver ds).port j = s.port j := rfl
@[simp] theorem State.slots_deliver (s : State) (ds : List Due) : (s.deliver ds).slots = s.slots := rfl
@[simp] theorem State.lines_deliver (s : State) (ds : List Due) : (s.deliver ds).lines = s.lines := rfl
@[simp] theorem State.groups_deliver (s : State) (ds : List Due) : (s.deliver ds).groups = s.groups := rfl
@[simp] theorem State.timebases_deliver (s : State) (ds : List Due) : (s.deliver ds).timebases = s.timebases := rfl
@[simp] theorem State.inputs_deliver (s : State) (ds : List Due) : (s.deliver ds).inputs = s.inputs := rfl
@[simp] theorem State.ports_deliver (s : State) (ds : List Due) : (s.deliver ds).ports = s.ports := rfl
@[simp] theorem State.lastServed_deliver (s : State) (ds : List Due) : (s.deliver ds).lastServed = s.lastServed := rfl
@[simp] theorem State.quenchLow_deliver (s : State) (ds : List Due) : (s.deliver ds).quenchLow = s.quenchLow := rfl
@[simp] theorem State.latch_deliver (s : State) (ds : List Due) : (s.deliver ds).latch = s.latch := rfl
@[simp] theorem State.resetLow_deliver (s : State) (ds : List Due) : (s.deliver ds).resetLow = s.resetLow := rfl
@[simp] theorem State.freeCount_deliver (s : State) (ds : List Due) : (s.deliver ds).freeCount = s.freeCount := rfl
@[simp] theorem State.pending_deliver (s : State) (ds : List Due) : (s.deliver ds).pending = s.pending := rfl
@[simp] theorem State.quenched_deliver (s : State) (ds : List Due) : (s.deliver ds).quenched = s.quenched := rfl

@[simp] theorem State.due_withdraw (s : State) (f : Due → Bool) : (s.withdraw f).due = s.due.filter fun d => !f d := rfl

/-- What is due after a withdrawal. -/
theorem State.mem_due_withdraw {s : State} {f : Due → Bool} {d : Due} : d ∈ (s.withdraw f).due ↔ d ∈ s.due ∧ f d = false := by
  simp

/-- What is due after a delivery: the happenings delivered, and what was due before, but for an earlier one of the same kind
that its user had no use for. -/
theorem State.mem_due_deliver {s : State} {ds : List Due} {d : Due} :
    d ∈ (s.deliver ds).due ↔ d ∈ ds ∨ d ∈ s.due := by
  by_cases h : d ∈ ds <;> simp [State.deliver, h]

/-- With nothing due before, a delivery leaves due what it delivers. -/
theorem State.due_deliver_of_nil {s : State} (h : s.due = []) (ds : List Due) : (s.deliver ds).due = ds := by
  simp [State.deliver, h]

end Sys2Proof.Machine
end

