-- ==== Sys2Proof/Laws/Engine.lean ====
section
/-! SUPPORT. What the engine's shared operations do, once each: the settling of levels, the end of an execution, the turn,
the handle checks, and the taking of a happening that is due. -/

namespace Sys2Proof.Machine

/-! ### Levels (R84) -/

theorem Line.settle_eq {x : Line} (h : x.asserted = decide (0 < x.claims)) : x.settle = x := by
  simp [Line.settle, h]

theorem Line.settle_asserted (x : Line) : x.settle.asserted = decide (0 < x.settle.claims) := by
  by_cases h : x.asserted = decide (0 < x.claims) <;> simp [Line.settle, h]

@[simp] theorem Line.settle_claims (x : Line) : x.settle.claims = x.claims := by
  simp only [Line.settle]; split <;> rfl

@[simp] theorem Line.settle_condition (x : Line) : x.settle.condition = x.condition := by
  simp only [Line.settle]; split <;> rfl

@[simp] theorem State.line_settleLevels (s : State) (l : LineId) : s.settleLevels.line l = (s.line l).settle := by
  simp [State.settleLevels]

/-- Where every level follows its claim count, settling changes nothing. -/
theorem State.settleLevels_eq {s : State} (h : s.LevelLaw) : s.settleLevels = s :=
  State.eq_of_parts (by simp [State.settleLevels]) (fun l => by simp [Line.settle_eq (h l)])
    (by simp [State.settleLevels]) (by simp [State.settleLevels]) (by simp [State.settleLevels])
    (by simp [State.settleLevels]) (by simp [State.settleLevels]) (by simp [State.settleLevels])
    (by simp [State.settleLevels]) (by simp [State.settleLevels]) (by simp [State.settleLevels])
    (by simp [State.settleLevels]) (by simp [State.settleLevels])

/-- Settling leaves every level as its claim count has it. -/
theorem State.levelLaw_settleLevels (s : State) : s.settleLevels.LevelLaw := by
  intro l; rw [State.line_settleLevels]; exact Line.settle_asserted _

/-- The end of a happening that has moved claims alone settles the lines (R84, R104). -/
theorem State.settles_settleLevels {s t : State}
    (h : ∀ l : LineId, (t.line l).asserted = (s.line l).asserted ∧ (t.line l).mismatch = (s.line l).mismatch) :
    s.Settles t.settleLevels := by
  refine ⟨t.levelLaw_settleLevels, fun l => ?_⟩
  rw [State.line_settleLevels, ← (h l).1, ← (h l).2]
  unfold Line.settle
  dsimp only
  split
  · simp
  · next hne => cases (t.line l).condition <;> simp [Condition.isLocked, Ne.symm hne]

/-- The level law looks at the lines alone. -/
theorem State.LevelLaw.of_lines {s t : State} (h : s.LevelLaw) (ht : ∀ l, t.line l = s.line l) : t.LevelLaw := by
  intro l; rw [ht]; exact h l

/-! ### Executions (R163) -/

/-- The end of an execution that leaves every level settled. -/
theorem State.finish_eq {p : Port} {f : Frame} {r : Reply} (h : r.state.LevelLaw) :
    State.finish p f r = r.state.answered p f r.status r.data := by
  simp only [State.finish, State.answered, State.settleLevels_eq h]
  rfl

/-- The engine at a port's turn runs the request there. -/
theorem State.execute_turn {s : State} {p : Port} {f : Frame} {r : Request} (h : s.Turn p f r)
    (run : Port → Request → Option Reply) :
    s.execute run = match run p r with
      | none => s
      | some reply => State.finish p f reply := by
  obtain ⟨h1, h2, h3⟩ := h
  unfold State.execute State.outOfReset
  rw [if_neg (by simp [h1])]
  cases hr : run p r <;> simp only [h2, h3, hr]

@[simp] theorem State.outOfReset_high {s : State} (h : s.resetLow = false) (f : State → State) : s.outOfReset f = f s := by
  simp [State.outOfReset, h]

@[simp] theorem State.outOfReset_low {s : State} (h : s.resetLow = true) (f : State → State) : s.outOfReset f = s := by
  simp [State.outOfReset, h]

/-! ### Handle checks (R3) -/

/-- A handle whose slot number is in range names this slot. -/
theorem handleOf_eq {i : SlotId} {h : RawHandle} (hs : h.slot.toNat = i.val) : handleOf h = some { slot := i, gen := h.gen } := by
  simp [handleOf, indexOf, hs]

/-- A current handle of the port's own session passes the handle checks. -/
theorem State.checkHandle_owner {s : State} {p : Port} {h : RawHandle} {i : SlotId} {q : Permit}
    (ho : (s.port p).isOpen = true) (hs : h.slot.toNat = i.val) (hg : h.gen = (s.slot i).gen) (hq : s.permit i = some q)
    (hw : s.ownedBy p q = true) : s.checkHandle p false h = .ok (i, q) := by
  simp [State.checkHandle, ho, handleOf_eq hs, State.resolve, hg, hq, hw]

/-- A current handle passes the handle checks of REVOKE on P0. -/
theorem State.checkHandle_revoke {s : State} {h : RawHandle} {i : SlotId} {q : Permit}
    (ho : (s.port 0).isOpen = true) (hs : h.slot.toNat = i.val) (hg : h.gen = (s.slot i).gen) (hq : s.permit i = some q) :
    s.checkHandle 0 true h = .ok (i, q) := by
  simp [State.checkHandle, ho, handleOf_eq hs, State.resolve, hg, hq]

/-! ### Happenings due (R121, R131) -/

/-- A happening that is due can be taken, and leaves the others due. -/
theorem State.takeDue_mem {s : State} {d : Due} (h : d ∈ s.due) :
    (s.takeDue fun x => x = d) = some { s with due := s.due.erase d } := by
  have htest : (fun x : Due => decide (x = d)) = (fun x => d == x) := by
    funext x; simp [BEq.beq, eq_comm]
  have hany : s.due.any (fun x => d == x) = true := by
    simp only [List.any_eq_true]
    exact ⟨d, h, by simp⟩
  simp only [State.takeDue, htest, hany, if_true, List.erase_eq_eraseP]

end Sys2Proof.Machine
end

