-- ==== Sys2Proof/Laws/Frames.lean ====
section
/-! SUPPORT. The frame of every operation that moves permits: State.Moves holds from the state before to the state after. -/

namespace Sys2Proof.Machine

theorem State.Moves.refl (s : State) : s.Moves s :=
  ⟨rfl, rfl, rfl, rfl, rfl, rfl, rfl, fun _ => rfl, fun _ => rfl, fun _ => rfl⟩

theorem State.Moves.trans {s t u : State} (h : s.Moves t) (k : t.Moves u) : s.Moves u where
  timebases := k.timebases.trans h.timebases
  inputs := k.inputs.trans h.inputs
  quenchLow := k.quenchLow.trans h.quenchLow
  latch := k.latch.trans h.latch
  resetLow := k.resetLow.trans h.resetLow
  lastServed := k.lastServed.trans h.lastServed
  pending := k.pending.trans h.pending
  line l := by rw [k.line l, h.line l]
  group g := by rw [k.group g, h.group g]
  port p := by rw [k.port p, h.port p]

theorem State.Moves.timebase {s t : State} (h : s.Moves t) (k : TimebaseId) : t.timebase k = s.timebase k := by
  simp only [State.timebase, h.timebases]

theorem State.Moves.quenched {s t : State} (h : s.Moves t) : t.quenched = s.quenched := by
  simp only [State.quenched, h.quenchLow, h.latch]

/-! ### Writes -/

theorem State.moves_setSlot (s : State) (i : SlotId) (x : Slot) : s.Moves (s.setSlot i x) := by
  constructor <;> simp

theorem State.moves_setPermit (s : State) (i : SlotId) (p : Permit) : s.Moves (s.setPermit i p) := by
  constructor <;> simp

theorem State.moves_mapSlots (s : State) (f : SlotId → Slot → Slot) : s.Moves (s.mapSlots f) := by
  constructor <;> simp

theorem State.moves_drawn (s : State) : s.Moves s.drawn := by
  constructor <;> simp

theorem State.moves_due (s : State) (d : List Due) : s.Moves { s with due := d } := by
  constructor <;> simp

theorem State.moves_withdraw (s : State) (f : Due → Bool) : s.Moves (s.withdraw f) := s.moves_due _

theorem State.moves_mapLines (s : State) {f : LineId → Line → Line}
    (hf : ∀ l x, f l x = { x with claims := (f l x).claims, asserted := (f l x).asserted, mismatch := (f l x).mismatch }) :
    s.Moves (s.mapLines f) := by
  constructor <;> simp
  intro l; exact hf l _

theorem State.moves_mapGroups (s : State) {f : GroupId → Group → Group}
    (hf : ∀ g x, f g x = { x with state := (f g x).state, queue := (f g x).queue }) : s.Moves (s.mapGroups f) := by
  constructor <;> simp
  intro g; exact hf g _

theorem State.moves_setGroup (s : State) {g : GroupId} {x : Group}
    (h : x = { s.group g with state := x.state, queue := x.queue }) : s.Moves (s.setGroup g x) := by
  constructor <;> simp
  intro g'; by_cases e : g = g'
  · subst e; simpa using h
  · simp [e]

theorem State.moves_setPort (s : State) {p : Port} {x : PortUnit}
    (h : x = { s.port p with owned := x.owned, attention := x.attention }) : s.Moves (s.setPort p x) := by
  constructor <;> simp
  intro p'; by_cases e : p = p'
  · subst e; simpa using h
  · simp [e]

theorem State.moves_settleLevels (s : State) : s.Moves s.settleLevels :=
  s.moves_mapLines fun l x => by
    simp only [Line.settle]
    split <;> rfl

/-! ### Notices and entries -/

theorem State.moves_appendEntry (s : State) (p : Port) (e : Entry) : s.Moves (s.appendEntry p e) :=
  s.moves_setPort rfl

theorem State.moves_removeEntry (s : State) (p : Port) (e : Entry) : s.Moves (s.removeEntry p e) :=
  s.moves_setPort rfl

theorem State.moves_raise (s : State) (i : SlotId) (k : Notice) : s.Moves (s.raise i k) := by
  unfold State.raise
  split
  · exact .refl s
  · split
    · exact .refl s
    · split
      · dsimp only; split
        · exact (s.moves_setPermit ..).trans (State.moves_appendEntry ..)
        · exact s.moves_setPermit ..
      · exact .refl s

theorem State.moves_placeLineEntry (s : State) (l : LineId) (c : LockCause) : s.Moves (s.placeLineEntry l c) := by
  unfold State.placeLineEntry; dsimp only
  split
  · split
    · exact s.moves_setPort rfl
    · exact s.moves_appendEntry ..
  · exact .refl s

theorem State.moves_placeQuenchEntry (s : State) : s.Moves s.placeQuenchEntry := by
  unfold State.placeQuenchEntry; dsimp only
  split
  · exact s.moves_appendEntry ..
  · exact .refl s

/-! ### Claims, groups and activation -/

theorem State.moves_addClaims (s : State) (ls : LineSet) : s.Moves (s.addClaims ls) :=
  s.moves_mapLines fun l x => by split <;> rfl

theorem State.moves_removeClaims (s : State) (ls : LineSet) : s.Moves (s.removeClaims ls) :=
  s.moves_mapLines fun l x => by split <;> rfl

theorem State.moves_enterActive (s : State) (i : SlotId) (b : Bool) : s.Moves (s.enterActive i b) := by
  unfold State.enterActive
  split
  · exact .refl s
  · dsimp only; split
    · exact ((s.moves_setPermit ..).trans (State.moves_addClaims ..)).trans (State.moves_raise ..)
    · exact (s.moves_setPermit ..).trans (State.moves_addClaims ..)

theorem State.moves_enterBlocked (s : State) (i : SlotId) (g : GroupId) : s.Moves (s.enterBlocked i g) := by
  unfold State.enterBlocked
  split
  · exact .refl s
  · exact ((s.moves_setGroup rfl).trans (State.moves_setPermit ..)).trans (State.moves_raise ..)

theorem State.moves_activate (s : State) (i : SlotId) : s.Moves (s.activate i) := by
  unfold State.activate
  split
  · exact .refl s
  · split
    · exact s.moves_enterActive ..
    · dsimp only; split
      · exact (s.moves_setGroup rfl).trans (State.moves_enterActive ..)
      · exact s.moves_enterBlocked ..

theorem State.moves_grantFollowers (g : GroupId) (l : LineId) (q : List Handle) (s : State) :
    s.Moves (State.grantFollowers g l q s) := by
  induction q generalizing s with
  | nil => exact .refl s
  | cons h rest ih =>
    unfold State.grantFollowers
    split
    · exact .refl s
    · split
      · exact ((s.moves_setGroup rfl).trans (State.moves_enterActive ..)).trans (ih _)
      · exact .refl s

theorem State.moves_grant (s : State) (g : GroupId) : s.Moves (s.grant g) := by
  unfold State.grant; dsimp only
  split
  · exact .refl s
  · split
    · exact .refl s
    · split
      · exact .refl s
      · exact ((s.moves_setGroup rfl).trans (State.moves_enterActive ..)).trans (State.moves_grantFollowers ..)

theorem State.moves_releaseGroup (s : State) (g : GroupId) : s.Moves (s.releaseGroup g) := by
  unfold State.releaseGroup; dsimp only
  split
  · exact (s.moves_setGroup rfl).trans (State.moves_grant ..)
  · exact s.moves_setGroup rfl

/-- A fold of moves is a move. -/
theorem State.moves_foldl {α : Type} {f : State → α → State} (hf : ∀ (s : State) (a : α), s.Moves (f s a)) (xs : List α) (s : State) :
    s.Moves (xs.foldl f s) := by
  induction xs generalizing s with
  | nil => exact .refl s
  | cons a rest ih => exact (hf s a).trans (ih _)

theorem State.moves_releaseGroups (s : State) : s.Moves s.releaseGroups :=
  s.moves_drawn.trans (State.moves_foldl (fun s g => by split; exacts [s.moves_releaseGroup g, .refl s]) ..)

theorem State.moves_leaveQueues (s : State) (h : Handle) : s.Moves (s.leaveQueues h) :=
  s.moves_mapGroups fun _ _ => rfl

theorem State.moves_detach (s : State) (i : SlotId) : s.Moves (s.detach i) := by
  unfold State.detach
  split
  · exact .refl s
  · split
    · exact s.moves_removeClaims ..
    · exact s.moves_leaveQueues ..
    all_goals exact .refl s

/-! ### Ends, retirement, triggers -/

theorem State.moves_leaveOwner (s : State) (h : Handle) (p : Permit) : s.Moves (s.leaveOwner h p) := by
  unfold State.leaveOwner
  split
  · exact .refl s
  · exact s.moves_setPort rfl

theorem State.moves_retire (s : State) (i : SlotId) : s.Moves (s.retire i) := by
  unfold State.retire
  split
  · exact .refl s
  · exact (((s.moves_leaveOwner ..).trans (State.moves_mapSlots ..)).trans (State.moves_setSlot ..)).trans
      (State.moves_withdraw ..)

theorem State.moves_retireIfOrphan (s : State) (i : SlotId) : s.Moves (s.retireIfOrphan i) := by
  unfold State.retireIfOrphan
  split
  · exact .refl s
  · split
    · exact .refl s
    · exact s.moves_retire i

theorem State.moves_enterEnded (s : State) (i : SlotId) (r : EndReason) : s.Moves (s.enterEnded i r) := by
  unfold State.enterEnded
  split
  · exact .refl s
  · exact ((s.moves_detach i).trans (State.moves_setPermit ..)).trans (State.moves_withdraw ..)

theorem State.moves_endAll (key : SlotId → Nat) (fuel : Nat) (work : List (SlotId × EndReason)) (s : State) :
    s.Moves (State.endAll key fuel work s) := by
  induction fuel generalizing work s with
  | zero => exact .refl s
  | succ n ih =>
    unfold State.endAll
    split
    · exact .refl s
    · exact ((s.moves_enterEnded ..).trans (State.moves_raise ..)).trans ((State.moves_retireIfOrphan ..).trans (ih ..))

theorem State.moves_endMany (s : State) (work : List (SlotId × EndReason)) : s.Moves (s.endMany work) :=
  s.moves_drawn.trans (State.moves_endAll ..)

theorem State.moves_endAbnormal (s : State) (i : SlotId) (r : EndReason) : s.Moves (s.endAbnormal i r) := by
  unfold State.endAbnormal
  split
  · exact ((s.moves_enterEnded i r).trans (State.moves_releaseGroups _)).trans
      ((State.moves_raise ..).trans (State.moves_retireIfOrphan ..))
  · exact (s.moves_endMany _).trans (State.moves_releaseGroups _)

theorem State.moves_beginRun (s : State) (i : SlotId) : s.Moves (s.beginRun i) := by
  unfold State.beginRun
  split
  · exact .refl s
  · split
    · exact s.moves_activate i
    · exact s.moves_setPermit ..

theorem State.moves_restart (s : State) (i : SlotId) (p : Permit) : s.Moves (s.restart i p) := by
  unfold State.restart
  split
  · split
    · exact (s.moves_setPermit ..).trans (State.moves_raise ..)
    · exact (((s.moves_removeClaims _).trans (State.moves_setPermit ..)).trans (State.moves_releaseGroups _)).trans
        (State.moves_raise ..)
  · exact (((s.moves_leaveQueues _).trans (State.moves_setPermit ..)).trans (State.moves_beginRun ..)).trans
      (State.moves_raise ..)
  all_goals first
    | exact .refl s
    | exact ((s.moves_setPermit ..).trans (State.moves_beginRun ..)).trans (State.moves_raise ..)

theorem State.moves_takeTrigger (s : State) (i : SlotId) : s.Moves (s.takeTrigger i).2 := by
  unfold State.takeTrigger
  split
  · exact .refl s
  · split
    · exact .refl s
    · exact .refl s
    · exact s.moves_raise ..
    · split
      · exact ((s.moves_setPermit ..).trans (State.moves_beginRun ..)).trans (State.moves_raise ..)
      · exact s.moves_raise ..
    all_goals
      split
      · exact s.moves_restart ..
      · exact s.moves_raise ..

theorem State.moves_endNormal (s : State) (i : SlotId) (r : EndReason) : s.Moves (s.endNormal i r) := by
  unfold State.endNormal; dsimp only
  refine State.Moves.trans ?_ (State.moves_retireIfOrphan ..)
  refine State.Moves.trans ?_ (State.moves_foldl (fun s j => s.moves_takeTrigger j) ..)
  exact (((s.moves_enterEnded i r).trans (State.moves_releaseGroups _)).trans (State.moves_raise ..)).trans
    (State.moves_drawn _)

end Sys2Proof.Machine
end

