-- ==== Sys2Proof/Laws/Safety.lean ====
section
/-! SUPPORT. The laws that speak of every handle, brought down to the handles that the table gives its slots, and what the words of
the statements about permits that stay come to for a permit with an owner. -/

namespace Sys2Proof.Machine

/-- A handle that names a permit is its slot's current handle (R3). -/
theorem State.handle_of_resolve {s : State} {h : Handle} {q : Permit} (hr : s.resolve h = some q) : h = s.handle h.slot := by
  unfold State.resolve at hr
  split at hr
  · next hg => cases h; simp_all [State.handle]
  · cases hr

theorem State.handle_of_blockedOn {s : State} {g : GroupId} {h : Handle} (hb : s.blockedOn g h = true) :
    h = s.handle h.slot := by
  unfold State.blockedOn State.blockedPermit at hb
  cases hr : s.resolve h with
  | none => simp [hr] at hb
  | some q => exact State.handle_of_resolve hr

theorem State.handle_of_awaits {s : State} {p : Port} {h : Handle} (ha : s.awaits p h = true) : h = s.handle h.slot := by
  unfold State.awaits at ha
  cases hr : s.resolve h with
  | none => simp [hr] at ha
  | some q => exact State.handle_of_resolve hr

/-- The wait queues' law from its instances at current handles. -/
theorem State.queueLaw_of {s : State}
    (h : ∀ g : GroupId, (s.group g).queue.Nodup ∧ (∀ h ∈ (s.group g).queue, s.blockedOn g h = true) ∧
      (∀ i : SlotId, s.blockedOn g (s.handle i) = true → s.handle i ∈ (s.group g).queue) ∧
      ((s.group g).state = .free → (s.group g).queue = [])) : s.QueueLaw := fun g =>
  ⟨(h g).1, fun x => ⟨(h g).2.1 x, fun hb => State.handle_of_blockedOn hb ▸ (h g).2.2.1 x.slot (State.handle_of_blockedOn hb ▸ hb)⟩,
    (h g).2.2.2⟩

/-- The attention lists' law from its instances at current handles. -/
theorem State.listLaw_of {s : State}
    (h : ∀ p : Port, (∀ i : SlotId, (s.port p).attention.count (.permit (s.handle i)) = if s.awaits p (s.handle i) then 1 else 0) ∧
      (∀ e ∈ (s.port p).attention,
        (match e with
          | .permit h => decide (h = s.handle h.slot)
          | .line _ _ => true
          | .quench => true) = true) ∧
      (∀ l : LineId, ((s.port p).attention.filter (Entry.isLine l)).length ≤ if p = 0 then 1 else 0) ∧
      ((s.port p).attention.filter Entry.isQuench).length ≤ if p = 0 then 1 else 0)
    (ho : ∀ i : SlotId, ∀ q ∈ s.permit i, q.owner = none → q.pending = {}) : s.ListLaw := by
  refine ⟨fun p => ⟨fun x => ?_, (h p).2.2⟩, ho⟩
  by_cases hx : x = s.handle x.slot
  · rw [hx]; exact (h p).1 x.slot
  · have ha : s.awaits p x = false := by
      cases ha : s.awaits p x
      · rfl
      · exact absurd (State.handle_of_awaits ha) hx
    simp only [ha]
    exact List.count_eq_zero.mpr fun hm => hx (of_decide_eq_true ((h p).2.1 _ hm))

/-- The exclusion groups' law at a group, read by its state (R91). -/
theorem State.claimsAllowed_of {s : State} {g : GroupId}
    (h : (match (s.group g).state with
      | .held l => (s.group g).has l && decide (0 < (s.line l).claims) &&
          allLines.all fun l' => !(s.group g).has l' || l' = l || (s.line l').claims = 0
      | .free => allLines.all fun l => !(s.group g).has l || (s.line l).claims = 0
      | .gap _ => allLines.all fun l => !(s.group g).has l || (s.line l).claims = 0) = true) : s.claimsAllowed g := by
  unfold State.claimsAllowed
  have hm : ∀ l : LineId, l ∈ allLines := fun l => List.mem_finRange l
  split at h <;> simp only [List.all_eq_true, Bool.and_eq_true, Bool.or_eq_true, decide_eq_true_eq, Bool.not_eq_true'] at h
  · next l heq =>
    simp only [heq]
    exact ⟨h.1.1, h.1.2, fun l' hl hne => by
      rcases h.2 l' (hm l') with (h1 | h1) | h1
      · simp [hl] at h1
      · exact absurd h1 hne
      · exact h1⟩
  · simp only [*]
    exact fun l hl => by
      rcases h l (hm l) with h1 | h1
      · simp [hl] at h1
      · exact h1
  · simp only [*]
    exact fun l hl => by
      rcases h l (hm l) with h1 | h1
      · simp [hl] at h1
      · exact h1

/-- The laws of groups and queues, in the forms of claimsAllowed_of and queueLaw_of, which can be decided. -/
abbrev State.GroupLawsHold (s : State) : Prop :=
  s.ClaimLaw ∧ s.LevelLaw ∧ s.MembersLaw ∧ s.GroupedLaw ∧ s.BlockedLaw ∧
    (∀ g : GroupId, (match (s.group g).state with
      | .held l => (s.group g).has l && decide (0 < (s.line l).claims) &&
          allLines.all fun l' => !(s.group g).has l' || l' = l || (s.line l').claims = 0
      | .free => allLines.all fun l => !(s.group g).has l || (s.line l).claims = 0
      | .gap _ => allLines.all fun l => !(s.group g).has l || (s.line l).claims = 0) = true) ∧
    ∀ g : GroupId, (s.group g).queue.Nodup ∧ (∀ h ∈ (s.group g).queue, s.blockedOn g h = true) ∧
      (∀ i : SlotId, s.blockedOn g (s.handle i) = true → s.handle i ∈ (s.group g).queue) ∧
      ((s.group g).state = .free → (s.group g).queue = [])

theorem State.groupLaws_of {s : State} (h : s.GroupLawsHold) : s.ExclusionLaw ∧ s.BlockedLaw ∧ s.QueueLaw :=
  ⟨⟨h.1, h.2.1, h.2.2.1, h.2.2.2.1, fun g => State.claimsAllowed_of (h.2.2.2.2.2.1 g)⟩, h.2.2.2.2.1,
    State.queueLaw_of h.2.2.2.2.2.2⟩

/-- A permit with an owner keeps its references (R7). -/
@[simp] theorem State.unreferenced_owned {s : State} {gone : SlotId → Bool} {q : Permit} (h : q.owner ≠ none) :
    s.unreferenced gone q = q := if_pos h

/-- Without retired slots no permit loses a reference (R2). -/
@[simp] theorem State.unreferenced_none (s : State) (q : Permit) : s.unreferenced (fun _ => false) q = q := by
  cases q with
  | mk owner _ _ _ trigger gate =>
    cases owner <;> rcases trigger with _ | _ | (_ | _) <;> cases gate <;> simp [State.unreferenced]

/-- A slot whose permit has an owner and is not BLOCKED is as it was where its permit stays. -/
theorem State.Stays.slot_eq {s t : State} {gone : SlotId → Bool} {i : SlotId} {q : Permit} (h : s.Stays t gone i q)
    (hq : s.permit i = some q) (ho : q.owner ≠ none) (hb : q.state ≠ .blocked) : t.slot i = s.slot i := by
  obtain ⟨hg, hp | ⟨hb', -⟩⟩ := h
  · rw [State.unreferenced_owned ho, ← hq] at hp
    cases ht : t.slot i; cases hs : s.slot i
    simp_all [State.permit]
  · exact absurd hb' hb

/-- A state in which nothing has changed leaves every permit with an owner where it was. -/
theorem State.Stays.refl {s : State} {gone : SlotId → Bool} {i : SlotId} {q : Permit} (hq : s.permit i = some q)
    (ho : q.owner ≠ none) : s.Stays s gone i q := ⟨rfl, .inl (by rw [State.unreferenced_owned ho, hq])⟩

/-- A list to which nothing is appended (R136). -/
theorem State.Appends.refl (s : State) (p : Port) : s.Appends p (s.port p).attention := ⟨[], by simp⟩

/-- Two happenings in a row append the entries of both (R136). -/
theorem State.Appends.trans {s t : State} {p : Port} {list : List Entry} (h : s.Appends p list)
    (k : t.Appends p (s.port p).attention) : t.Appends p list := by
  obtain ⟨a, ha, ea⟩ := h
  obtain ⟨b, hb, eb⟩ := k
  refine ⟨a ++ b, by rw [hb, ha, List.append_assoc], fun e he => ?_⟩
  rcases List.mem_append.mp he with he | he
  exacts [ea e he, eb e he]

end Sys2Proof.Machine
end

