-- ==== Sys2Proof/Laws/Slots.lean ====
section
/-! SUPPORT. Which slots an operation reaches: a slot outside them is as it was. -/

namespace Sys2Proof.Machine

/-! ### Operations that touch one slot -/

theorem State.slot_raise {s : State} {i j : SlotId} (k : Notice) (h : i ≠ j) : (s.raise i k).slot j = s.slot j := by
  unfold State.raise
  split
  · rfl
  · split
    · rfl
    · split
      · dsimp only; split <;> simp [State.appendEntry, h]
      · rfl

@[simp] theorem State.gen_raise (s : State) (i : SlotId) (k : Notice) (j : SlotId) :
    ((s.raise i k).slot j).gen = (s.slot j).gen := by
  by_cases h : i = j
  · subst h
    unfold State.raise
    split
    · rfl
    · split
      · rfl
      · split
        · dsimp only; split <;> simp [State.appendEntry]
        · rfl
  · rw [State.slot_raise k h]

/-- The permit after a raise at its slot. -/
theorem State.permit_raise {s : State} {i : SlotId} {q : Permit} (k : Notice) (h : s.permit i = some q) :
    (s.raise i k).permit i = some (q.raised k) := by
  unfold State.raise
  simp only [h]
  split
  · simp [*, Permit.raised]
  · next o ho =>
    by_cases hr : q.reports k = true
    · simp only [hr, if_true]
      split <;> simp [State.appendEntry, Permit.raised, hr, ho]
    · simp [hr, ho, Permit.raised, h]

theorem State.slot_enterActive {s : State} {i j : SlotId} (b : Bool) (h : i ≠ j) : (s.enterActive i b).slot j = s.slot j := by
  unfold State.enterActive
  split
  · rfl
  · dsimp only; split
    · rw [State.slot_raise _ h]; simp [State.addClaims, h]
    · simp [State.addClaims, h]

theorem State.slot_enterBlocked {s : State} {i j : SlotId} (g : GroupId) (h : i ≠ j) :
    (s.enterBlocked i g).slot j = s.slot j := by
  unfold State.enterBlocked
  split
  · rfl
  · dsimp only; rw [State.slot_raise _ h]; simp [h]

theorem State.slot_activate {s : State} {i j : SlotId} (h : i ≠ j) : (s.activate i).slot j = s.slot j := by
  unfold State.activate
  split
  · rfl
  · split
    · exact State.slot_enterActive _ h
    · dsimp only; split
      · rw [State.slot_enterActive _ h]; simp
      · exact State.slot_enterBlocked _ h

theorem State.slot_beginRun {s : State} {i j : SlotId} (h : i ≠ j) : (s.beginRun i).slot j = s.slot j := by
  unfold State.beginRun
  split
  · rfl
  · split
    · exact State.slot_activate h
    · simp [h]

/-! ### Grants reach BLOCKED permits alone (R37, R96) -/

/-- The slot holds no BLOCKED permit. -/
def State.notBlocked (s : State) (j : SlotId) : Prop := ∀ q, s.permit j = some q → q.state ≠ .blocked

theorem State.notBlocked_of_slot {s t : State} {j : SlotId} (h : t.slot j = s.slot j) (hb : s.notBlocked j) : t.notBlocked j := by
  intro q hq; exact hb q (by simpa [State.permit, h] using hq)

theorem State.ne_of_blockedPermit {s : State} {h : Handle} {q : Permit} {j : SlotId} (hq : s.blockedPermit h = some q)
    (hj : s.notBlocked j) : h.slot ≠ j := by
  rintro rfl
  simp only [State.blockedPermit, State.resolve] at hq
  by_cases hg : (s.slot h.slot).gen = h.gen
  · simp only [hg, if_true] at hq
    cases hp : s.permit h.slot with
    | none => simp [hp] at hq
    | some r =>
      simp only [hp] at hq
      by_cases hb : r.state = .blocked
      · exact hj r hp hb
      · simp [hb] at hq
  · simp [hg] at hq

theorem State.slot_grantFollowers (g : GroupId) (l : LineId) (q : List Handle) {s : State} {j : SlotId} (hj : s.notBlocked j) :
    (State.grantFollowers g l q s).slot j = s.slot j := by
  induction q generalizing s with
  | nil => rfl
  | cons h rest ih =>
    unfold State.grantFollowers
    split
    · rfl
    · next p hp =>
      split
      · have hne := State.ne_of_blockedPermit hp hj
        have hs : ((s.setGroup g { s.group g with queue := rest }).enterActive h.slot true).slot j = s.slot j := by
          rw [State.slot_enterActive _ hne]; simp
        rw [ih (State.notBlocked_of_slot hs hj), hs]
      · rfl

theorem State.slot_grant {s : State} (g : GroupId) {j : SlotId} (hj : s.notBlocked j) : (s.grant g).slot j = s.slot j := by
  unfold State.grant; dsimp only
  split
  · rfl
  · next h rest _ =>
    split
    · rfl
    · next p hp =>
      split
      · rfl
      · next l _ =>
        have hne := State.ne_of_blockedPermit hp hj
        have hs : ((s.setGroup g { s.group g with state := .held l, queue := rest }).enterActive h.slot true).slot j =
            s.slot j := by
          rw [State.slot_enterActive _ hne]; simp
        rw [State.slot_grantFollowers _ _ _ (State.notBlocked_of_slot hs hj), hs]

theorem State.slot_releaseGroup {s : State} (g : GroupId) {j : SlotId} (hj : s.notBlocked j) :
    (s.releaseGroup g).slot j = s.slot j := by
  unfold State.releaseGroup; dsimp only
  split
  · rw [State.slot_grant]
    · simp
    · exact State.notBlocked_of_slot (by simp) hj
  · simp

theorem State.slot_releaseGroups {s : State} {j : SlotId} (hj : s.notBlocked j) : s.releaseGroups.slot j = s.slot j := by
  have key : ∀ (xs : List GroupId) (t : State), t.notBlocked j →
      (xs.foldl (fun s g => if s.holderReleased g then s.releaseGroup g else s) t).slot j = t.slot j := by
    intro xs
    induction xs with
    | nil => intro t _; rfl
    | cons g rest ih =>
      intro t ht
      simp only [List.foldl_cons]
      split
      · have hs := State.slot_releaseGroup g ht
        rw [ih _ (State.notBlocked_of_slot hs ht), hs]
      · exact ih _ ht
  unfold State.releaseGroups
  rw [key _ _ (State.notBlocked_of_slot (by simp) hj)]
  simp

/-! ### Triggers and ends -/

theorem State.slot_restart {s : State} {i j : SlotId} (p : Permit) (h : i ≠ j) (hj : s.notBlocked j) :
    (s.restart i p).slot j = s.slot j := by
  unfold State.restart
  split
  · split
    · rw [State.slot_raise _ h]; simp [h]
    · rw [State.slot_raise _ h]
      have hs : ((s.removeClaims p.lines).setPermit i
          { p.clearCounters with state := .waiting, remaining := p.wait }).slot j = s.slot j := by
        simp [State.removeClaims, h]
      rw [State.slot_releaseGroups (State.notBlocked_of_slot hs hj), hs]
  · rw [State.slot_raise _ h, State.slot_beginRun h]; simp [State.leaveQueues, h]
  all_goals first
    | rfl
    | (rw [State.slot_raise _ h, State.slot_beginRun h]; simp [h])

/-- A trigger reaches its permit, and through a release of its group BLOCKED permits. -/
theorem State.slot_takeTrigger {s : State} {i j : SlotId} (h : i ≠ j) (hj : s.notBlocked j) :
    (s.takeTrigger i).2.slot j = s.slot j := by
  unfold State.takeTrigger
  split
  · rfl
  · split
    · rfl
    · rfl
    · exact State.slot_raise _ h
    · split
      · simp only [State.accept]
        rw [State.slot_raise _ h, State.slot_beginRun h]; simp [h]
      · exact State.slot_raise _ h
    all_goals
      split
      · exact State.slot_restart _ h hj
      · exact State.slot_raise _ h

theorem State.slot_detach {s : State} (i j : SlotId) : (s.detach i).slot j = s.slot j := by
  unfold State.detach
  split
  · rfl
  · split <;> simp [State.removeClaims, State.leaveQueues]

theorem State.slot_enterEnded {s : State} {i j : SlotId} (r : EndReason) (h : i ≠ j) : (s.enterEnded i r).slot j = s.slot j := by
  unfold State.enterEnded
  split
  · rfl
  · rw [State.slot_withdraw, State.slot_setPermit]; simp [h, State.slot_detach]

/-- The permit after its entry to ENDED. -/
theorem State.permit_enterEnded {s : State} {i : SlotId} {q : Permit} (r : EndReason) (h : s.permit i = some q) :
    (s.enterEnded i r).permit i = some { q with state := .ended, remaining := 0, endReason := some r } := by
  unfold State.enterEnded
  simp [h]

@[simp] theorem State.gen_enterEnded (s : State) (i : SlotId) (r : EndReason) (j : SlotId) :
    ((s.enterEnded i r).slot j).gen = (s.slot j).gen := by
  by_cases h : i = j
  · subst h
    unfold State.enterEnded
    split
    · rfl
    · simp [State.slot_detach]
  · rw [State.slot_enterEnded r h]

/-- Retirement reaches other slots only to drop an orphan's references. -/
theorem State.slot_retire {s : State} {i j : SlotId} (h : i ≠ j) (hj : ∀ q, s.permit j = some q → q.owner ≠ none) :
    (s.retire i).slot j = s.slot j := by
  have hlo : ∀ (hd : Handle) (p : Permit), (s.leaveOwner hd p).slot j = s.slot j := by
    intro hd p; unfold State.leaveOwner; split <;> simp
  unfold State.retire
  split
  · rfl
  · next p hp =>
    simp only [State.slot_withdraw, State.slot_setSlot, h, if_false, State.slot_mapSlots, hlo]
    cases hq : s.permit j with
    | none => simp only [State.permit] at hq; cases hx : s.slot j; simp_all
    | some q =>
      have := hj q hq
      simp only [State.permit] at hq
      cases hx : s.slot j
      cases ho : q.owner <;> simp_all [Permit.dropReference]

/-- The slot after its retirement (R2). -/
theorem State.slot_retire_self {s : State} {i : SlotId} {q : Permit} (h : s.permit i = some q) :
    (s.retire i).slot i = { gen := (s.slot i).gen + 1, permit := none } := by
  unfold State.retire
  simp only [h]
  rw [State.slot_withdraw, State.slot_setSlot, if_pos rfl]
  rfl

theorem State.slot_retireIfOrphan {s : State} {i j : SlotId} (h : i ≠ j) (hj : ∀ q, s.permit j = some q → q.owner ≠ none) :
    (s.retireIfOrphan i).slot j = s.slot j := by
  unfold State.retireIfOrphan
  split
  · rfl
  · split
    · rfl
    · exact State.slot_retire h hj

end Sys2Proof.Machine
end

