-- ==== Sys2Proof/WellFormed.lean ====
section
/-! DEFINITION. Which commands are well formed. Slot, line, group, timebase, input and port numbers are in range
by their types, so one check is left: a transaction that is no break has 8 or more rising edges of the clock (R156). -/

namespace Sys2Proof

/-- The command could come from outside: a REQUEST_FRAME ends a transaction of at least 8 rising clock edges, each of which
sampled a bit (R156). -/
def Instr.wellFormed : Instr → Bool
  | .requestFrame _ bits => decide (8 ≤ bits.length)
  | .reset => true
  | .resetRelease _ => true
  | .transactionStart _ => true
  | .breakPort _ => true
  | .unknownRequest => true
  | .openSession => true
  | .closeSession => true
  | .status => true
  | .readLines => true
  | .create => true
  | .arm => true
  | .fire => true
  | .renew => true
  | .release => true
  | .amend => true
  | .retire => true
  | .query => true
  | .listTable => true
  | .nextAttention => true
  | .ackPermitEntry => true
  | .ackLineEntry => true
  | .ackQuenchEntry => true
  | .revoke => true
  | .setTimebase => true
  | .startTimebase => true
  | .stopTimebase => true
  | .setInput => true
  | .setLine => true
  | .setGroup => true
  | .lockLine => true
  | .clearLine => true
  | .setQuota => true
  | .quenchSet => true
  | .quenchClear => true
  | .clearTable => true
  | .timebaseSourceEvent _ => true
  | .timebaseTick _ => true
  | .inputSample _ _ => true
  | .filteredEdge _ _ => true
  | .inputTrigger _ => true
  | .inputRenewal _ => true
  | .armingTick _ => true
  | .phaseTick _ => true
  | .waitEnd _ => true
  | .pulseHoldEnd _ => true
  | .trainHoldEnd _ => true
  | .restEnd _ => true
  | .leaseExpiry _ => true
  | .blockedTick _ => true
  | .starvation _ => true
  | .gapTick _ => true
  | .gapEnd _ => true
  | .senseCheck _ _ => true
  | .senseLock _ _ => true
  | .quenchPinChange _ => true

end Sys2Proof
end

