-- ==== Sys2Proof/Tests/Slice0.lean ====
section
/-! SUPPORT. Small tests, their expected results taken from the manual, and for every statement that has hypotheses a
state and operands that meet them together, clause by clause. -/

namespace Sys2Proof.Tests

open Sys2Proof.Machine

set_option Elab.async false

/-! ### Small states -/

/-- The request frame that carries a request, as a holder keeps it. -/
def frameOf (r : Request) : Frame := { seq := 3, code := r.code, fields := r.fields }

/-- Out of reset: session 1 open on P0, session 7 on P1, P2 CLOSED, TB0 RUNNING. -/
def ready : State :=
  let s := { State.reset with resetLow := false }
  let s := s.setPort 0 { s.port 0 with isOpen := true, session := 1 }
  let s := s.setPort 1 { s.port 1 with isOpen := true, session := 7 }
  s.setTimebase 0 { s.timebase 0 with running := true }

/-- A request PENDING on a port whose turn it is. -/
def asked (s : State) (p : Port) (r : Request) : State :=
  { s.setPort p { s.port p with holder := .pending (frameOf r) } with lastServed := p + 2 }

/-- A PULSE on D0 that P1's session owns. -/
def mine (st : PState) (remaining : Nat) : Permit :=
  { owner := some ⟨1, 7⟩, shape := .pulse, lines := 1, timebase := 0, trigger := .soft, gate := none, wait := 2, hold := 3
    blockLimit := none, mask := {}, retrigger := .ignore, orphan := .endRun, state := st, remaining := remaining, cycles := 0
    renewalAge := 0, blockedAge := 0, endReason := none, pending := {} }

/-- An ENDED permit of P1. -/
def ended : Permit := { mine .ended 0 with endReason := some .completed }

/-- A permit in a slot of generation 5, its claims added and P1's owned count raised. -/
def put (s : State) (i : SlotId) (q : Permit) : State :=
  let s := s.setSlot i { gen := 5, permit := some q }
  let s := s.setPort 1 { s.port 1 with owned := (s.port 1).owned + 1 }
  if q.state = .active then (s.addClaims q.lines).settleLevels else s

/-- Group G0 of D0 and D1 with a gap of 2. -/
def grouped (st : GroupState) (queue : List Handle) (s : State) : State :=
  s.setGroup 0 { members := 3, gap := 2, timebase := 0, state := st, queue := queue }

/-- A happening on its way to a user. -/
def due (d : Due) (s : State) : State := { s with due := [d] }

/-- Handles of generation 5. -/
def at5 (i : SlotId) : Handle := { slot := i, gen := 5 }

/-- The handle bytes of the permit in slot 0. -/
def raw0 : RawHandle := { slot := 0, gen := 5 }

/-- The state that a command leaves. -/
def ran (i : Instr) (s : State) : State :=
  match exec i s with
  | .next t => t
  | .fault _ => s
  | .refused _ => s

/-- The permit in slot 0 with its counters, as state, remaining, cycles and end reason. -/
def slot0 (s : State) : Option (PState × Nat × Nat × Option EndReason) :=
  (s.permit 0).map fun q => (q.state, q.remaining, q.cycles, q.endReason)

/-- The status and data of the response stored on a port. -/
def answerOn (p : Port) (s : State) : Status × List Byte := ((s.port p).stored.status, (s.port p).stored.data)

/-- A TRAIN on D6 as in the example of chapter 2: wait 1, hold 2, rest 3, repeat 2. -/
def train (st : PState) (remaining cycles : Nat) : Permit :=
  { mine st remaining with shape := .train 3 2, lines := 0x40, wait := 1, hold := 2, cycles := cycles }

/-- A port lease on D8 as in the example of chapter 4: hold 6, minimum renewal interval 3. -/
def lease (st : PState) (remaining age : Nat) : Permit :=
  { mine st remaining with shape := .lease .port 3, lines := 0x100, hold := 6, renewalAge := age }

/-! ### Tests against the manual -/

/-- R157: over the characters 123456789 the CRC is 29B1 hexadecimal. -/
theorem test_crc_check_value : crc16 [0x31, 0x32, 0x33, 0x34, 0x35, 0x36, 0x37, 0x38, 0x39] = 0x29B1 := by decide +kernel

/-- R156: a transaction that is no break has 8 or more rising edges; the one check of wellFormed refuses seven bits. -/
theorem test_seven_bits_are_ill_formed : (Instr.requestFrame 1 (List.replicate 7 true)).wellFormed = false := by decide

theorem test_eight_bits_are_well_formed : (Instr.requestFrame 1 (List.replicate 8 true)).wellFormed = true := by decide

/-- R156: the first bit of a byte is its most significant, and bits after the last whole byte are discarded. -/
theorem test_bits_make_bytes :
    bytesOf ([true, false, false, false, false, false, true, false] ++ [false, false, false, false, true, true, true, true] ++
      List.replicate 7 true) = [0x82, 0x0F] ∧ bytesOf (List.replicate 7 true) = [] := by decide

/-- The opcode table gives no row any bits. -/
theorem test_no_word_spells_a_command : decodeTableWord 0 0 = none ∧ decodeTableWord 32 0x11 = none := by decide

/-- R167, R170: ARM of slot 2, generation 9, under sequence number 4, laid out by hand but for its CRC. -/
theorem test_arm_frame_layout : (encodeRequest 4 (.arm ⟨2, 9⟩)).take 5 = [0x07, 0x04, 0x11, 0x02, 0x09] := by decide +kernel

/-- R158: a frame one byte of which is wrong fails the frame check. -/
theorem test_corrupt_frame_fails : parseFrame (0x07 :: (encodeRequest 4 (.arm ⟨2, 9⟩)).tail.map (· ^^^ 1)) = none := by
  decide +kernel

/-- R164: codes and lengths that the catalogue does not list. -/
theorem test_unknown_requests :
    decodeRequest 0x05 [] = .error .badRequest ∧ decodeRequest 0x11 [0] = .error .badRequest ∧
      decodeRequest 0x1A [4, 0, 0, 0] = .error .badField := by decide

/-- Chapter 2, the TRAIN example: an accepted FIRE, the end of the wait, of a hold that repeats, of a rest, and of the last
hold. -/
theorem test_train_fire :
    slot0 (ran .fire (asked (put ready 0 (train .armed 0 0)) 1 (.fire raw0))) = some (.waiting, 1, 0, none) ∧
      answerOn 1 (ran .fire (asked (put ready 0 (train .armed 0 0)) 1 (.fire raw0))) = (.ok, [1]) := by decide +kernel

theorem test_train_wait_end :
    slot0 (ran (.waitEnd 0) (due (.permitTick (at5 0)) (put ready 0 (train .waiting 1 0)))) = some (.active, 2, 1, none) ∧
      ((ran (.waitEnd 0) (due (.permitTick (at5 0)) (put ready 0 (train .waiting 1 0)))).line 6).asserted = true := by
  decide +kernel

theorem test_train_hold_end_rests :
    slot0 (ran (.trainHoldEnd 0) (due (.permitTick (at5 0)) (put ready 0 (train .active 1 1)))) = some (.resting, 3, 1, none) ∧
      ((ran (.trainHoldEnd 0) (due (.permitTick (at5 0)) (put ready 0 (train .active 1 1)))).line 6).asserted = false := by
  decide +kernel

theorem test_train_rest_end :
    slot0 (ran (.restEnd 0) (due (.permitTick (at5 0)) (put ready 0 (train .resting 1 1)))) = some (.active, 2, 2, none) := by
  decide +kernel

theorem test_train_completes :
    slot0 (ran (.trainHoldEnd 0) (due (.permitTick (at5 0)) (put ready 0 (train .active 1 2)))) =
      some (.ended, 0, 2, some .completed) := by decide +kernel

/-- Chapter 4, the lease example: a renewal inside the window is TOO_EARLY, one at renewal age 3 is taken. -/
theorem test_lease_renewals :
    answerOn 1 (ran .renew (asked (put ready 0 (lease .active 5 2)) 1 (.renew raw0))) = (.tooEarly, []) ∧
      answerOn 1 (ran .renew (asked (put ready 0 (lease .active 3 3)) 1 (.renew raw0))) = (.ok, [1]) ∧
      slot0 (ran .renew (asked (put ready 0 (lease .active 3 3)) 1 (.renew raw0))) = some (.active, 6, 0, none) := by
  decide +kernel

/-- R35, R39: an unrenewed lease expires. -/
theorem test_lease_expires :
    slot0 (ran (.leaseExpiry 0) (due (.permitTick (at5 0)) (put ready 0 (lease .active 1 3)))) =
      some (.ended, 0, 0, some .expired) := by decide +kernel

/-- R94: the last claim on the holder line goes, and a group with a gap goes into GAP. -/
theorem test_release_opens_gap :
    ((ran .release (asked (grouped (.held 0) [] (put ready 0 (mine .active 2))) 1 (.release raw0))).group 0).state = .gap 2 := by
  decide +kernel

/-- R96: the end of the gap grants the head of the queue. -/
theorem test_gap_end_grants :
    slot0 (ran (.gapEnd 0) (due (.groupTick 0 0) (grouped (.gap 1) [at5 0] (put ready 0 (mine .blocked 0))))) =
        some (.active, 3, 0, none) ∧
      ((ran (.gapEnd 0) (due (.groupTick 0 0) (grouped (.gap 1) [at5 0] (put ready 0 (mine .blocked 0))))).group 0).state =
        .held 0 := by decide +kernel

/-- R2: the 256th retirement of a slot brings its generation back to 0. -/
theorem test_generation_wraps : ((((ready.setSlot 0 { gen := 255, permit := some ended }).retire 0).slot 0).gen = 0) := by
  decide +kernel

/-- R146: session 255 is followed by session 1, and the quota shows in the response. -/
theorem test_session_number_wraps :
    answerOn 2 (ran .openSession (asked (ready.setPort 2 { ready.port 2 with session := 255 }) 2 .openSession)) =
      (.ok, [1, 16]) := by decide +kernel

/-- R149: quotas that would sum to 49. -/
theorem test_quota_sum_is_bounded :
    answerOn 0 (ran .setQuota (asked ready 0 (.setQuota 1 17))) = (.badField, [16, 16, 16]) ∧
      answerOn 0 (ran .setQuota (asked ready 0 (.setQuota 1 2))) = (.ok, [16, 2, 16]) := by decide +kernel

/-- R114, R38: an onset ends a running permit QUENCHED, and R112: RESET_RELEASE takes up the pin. -/
theorem test_quench_onset_ends :
    slot0 (ran (.quenchPinChange true) (put ready 0 (mine .waiting 2))) = some (.ended, 0, 0, some .quenched) ∧
      (ran (.resetRelease true) State.reset).quenched = true := by decide +kernel

/-- R103, R105: the mismatch that brings the count to the tolerance locks the line. -/
theorem test_sense_lock :
    ((ran (.senseLock 0 true) (due (.lineTick 0 0) (ready.setLine 0 { ready.line 0 with senseOn := true }))).line 0).condition =
      .locked .sense := by decide +kernel

/-- R130: at depth 1 the second sample that differs makes a filtered edge. -/
theorem test_filtered_edge :
    ((ran (.inputSample 0 true) (ran (.inputSample 0 false) ready)).input 0).level = true := by decide +kernel

/-- The step takes the front of the queue (a TIMEBASE_SOURCE_EVENT), and R120: a divisor of 1 makes every event a tick. -/
theorem test_step_takes_front :
    (match step { put ready 0 (mine .waiting 2) with pending := [.timebaseSourceEvent 0, .reset] } with
      | .next t => (t.due.contains (.permitTick (at5 0)), t.pending)
      | .fault _ => (false, [])
      | .refused _ => (false, [])) = (true, [.reset]) := by decide +kernel

/-- R47: an edge that finds the permit ENDED is not brought back by a later ARM; R48: while ARMING it is a trigger. -/
theorem test_edges_end_with_the_subscription :
    (ran .release (asked (due (.trigger (at5 0)) (put ready 0 { mine .armed 0 with trigger := .input 0 .rise })) 1
        (.release raw0))).due = [] ∧
      (ran .arm (asked (due (.trigger (at5 0)) (put ready 0 (mine .idle 0))) 1 (.arm raw0))).due = [.trigger (at5 0)] := by
  decide +kernel

/-- R87: a SET_LINE makes the line wait for the next tick of its check timebase. -/
theorem test_set_line_drops_the_tick :
    (ran .setLine (asked (due (.lineTick 0 0) ready) 0 (.setLine 0 0 1 1 0 0))).due = [] := by decide +kernel

/-- R95, R127: a stop takes the ticks of the timebase with it, so a gap that begins on the STOPPED timebase keeps its count. -/
theorem test_stop_drops_the_ticks :
    (ran .stopTimebase (asked { ready with due := [.groupTick 0 0, .groupTick 1 1] } 0 (.stopTimebase 0))).due =
      [.groupTick 1 1] := by decide +kernel

/-- R121: a tick that reaches the group HELD is taken in GAP where the release comes first. -/
theorem test_release_before_the_tick :
    ((ran (.gapTick 0) (ran .release (asked (ran (.timebaseSourceEvent 0)
        (grouped (.held 0) [] (put ready 0 (mine .active 2)))) 1 (.release raw0)))).group 0).state = .gap 1 := by
  decide +kernel

/-- R156: the idle response, then bytes of value 0, and no byte without a transaction. -/
theorem test_sdo_bytes :
    (([0, 2, 3, 4, 7, 200].map fun n =>
        ({ ready.port 2 with transaction := some { response := .idle, attention := 0, free := 0 } } : PortUnit).sdo n) =
      [some 7, some 0, some 0, some 0, some 0, some 0]) ∧ (ready.port 2).sdo 0 = none := by decide +kernel

/-- R156: SDO before the first falling edge, after four to eight of them, and without a transaction; the length byte is 07. -/
theorem test_sdo_bits :
    (([0, 4, 5, 6, 7, 8].map fun n =>
        ({ ready.port 2 with transaction := some { response := .idle, attention := 0, free := 0 } } : PortUnit).sdoBit n) =
      [some false, some false, some true, some true, some true, some false]) ∧ (ready.port 2).sdoBit 0 = none := by
  decide +kernel

/-! ### Ways to meet a hypothesis -/

theorem turn_of {s : State} {p : Port} {f : Frame} {r : Request}
    (h : s.resetLow = false ∧ s.nextRequest = some (p, f) ∧ decodeRequest f.code f.fields = .ok r) : s.Turn p f r := h

theorem passes_of {s : State} {p : Port} {h : RawHandle} {i : SlotId} {q : Permit}
    (hh : (s.port p).isOpen = true ∧ (h.slot.toNat = i.val ∧ h.gen = (s.slot i).gen ∧ s.permit i = some q) ∧
      q.owner = some { port := p, session := (s.port p).session }) : s.Passes p h i q := hh

theorem supervisor_of {s : State} {p : Port} (h : p = 0 ∧ (s.port 0).isOpen = true) : s.Supervisor p := h

/-! ### Witnesses: reset, port units, decoding -/

/-- ResetAndRelease: both levels of RESET_N. -/
theorem witness_ResetAndRelease :
    State.reset.resetLow = true ∧ State.reset.latch = false ∧ ready.resetLow = false := by decide

/-- NothingHappensInReset. -/
theorem witness_NothingHappensInReset :
    State.reset.resetLow = true ∧ Instr.openSession ≠ .reset ∧ ∀ low, Instr.openSession ≠ .resetRelease low := by decide

/-- TransactionStartFixesResponse: a VACANT, a PENDING and a DONE holder. -/
theorem witness_TransactionStartFixesResponse :
    ready.resetLow = false ∧ (ready.port 2).transaction = none ∧ (ready.port 2).holder = .vacant ∧
      ((asked ready 2 .status).port 2).transaction = none ∧
      ((asked ready 2 .status).port 2).holder = .pending (frameOf .status) ∧
      ((ran .status (asked ready 2 .status)).port 2).transaction = none ∧
      ((ran .status (asked ready 2 .status)).port 2).holder = .done := by decide +kernel

/-- A transaction in progress on P1 that shifts out a response. -/
def shifting (r : Response) (s : State) : State :=
  s.setPort 1 { s.port 1 with transaction := some { response := r, attention := 0, free := 0 } }

/-- RequestFrameIsJudged: a frame that fails the check, a NOP, a frame under a NOT_READY response, a repeat after DONE, and a
new request; no bit and seven bits after the last whole byte, and transactions of no bit and of seven. -/
theorem witness_RequestFrameIsJudged :
    (shifting .idle ready).resetLow = false ∧
      ((shifting .idle ready).port 1).transaction = some { response := .idle, attention := 0, free := 0 } ∧
      parseFrame [0] = none ∧ ([] : List Bool).length < 8 ∧ (List.replicate 7 true).length < 8 ∧
      parseFrame (encodeFrame { seq := 0, code := 0, fields := [] }) = some { seq := 0, code := 0, fields := [] } ∧
      ({ Response.idle with status := .notReady } : Response).status = .notReady ∧
      parseFrame (encodeRequest 3 .status) = some (frameOf .status) ∧ (frameOf .status).code ≠ 0 ∧
      (((shifting .idle ready).port 1).lastSeq ≠ some 3 ∧ Response.idle.status ≠ .notReady) ∧
      ({ (shifting .idle ready).port 1 with lastSeq := some 3, holder := .done } : PortUnit).lastSeq = some (frameOf .status).seq := by
  decide +kernel

/-- BreakResetsPort: an open and a CLOSED session. -/
theorem witness_BreakResetsPort :
    ((shifting .idle (put ready 0 (mine .active 2))).OwnerLaw ∧
        (shifting .idle (put ready 0 (mine .active 2))).resetLow = false ∧
        ((shifting .idle (put ready 0 (mine .active 2))).port 1).transaction = some { response := .idle, attention := 0, free := 0 } ∧
        ((shifting .idle (put ready 0 (mine .active 2))).port 1).isOpen = true) ∧
      (shifting .idle (ran .closeSession (asked ready 1 .closeSession))).OwnerLaw ∧
      ((shifting .idle (ran .closeSession (asked ready 1 .closeSession))).port 1).transaction =
        some { response := .idle, attention := 0, free := 0 } ∧
      ((shifting .idle (ran .closeSession (asked ready 1 .closeSession))).port 1).isOpen = false := by decide +kernel

/-- ParsedFramesAreEncodedFrames, with padding, and the bound on the fields of a frame. -/
theorem witness_ParsedFramesAreEncodedFrames :
    parseFrame (encodeFrame { seq := 15, code := 0x7F, fields := [0xA5, 0x5A] } ++ [0xFF]) =
        some { seq := 15, code := 0x7F, fields := [0xA5, 0x5A] } ∧
      (List.replicate 59 (0xA5 : Byte)).length ≤ 59 := by decide +kernel

/-- ResponseFrameLayout, at its bounds, and in a transaction before the end of a frame and after it. -/
theorem witness_ResponseFrameLayout :
    (List.replicate 121 (0 : Byte)).length ≤ 121 ∧ 65 ≤ 65 ∧
      ((shifting .idle ready).port 1).transaction = some { response := .idle, attention := 0, free := 0 } ∧
      (responseFrame 0 .idle 0).length = 7 := by decide +kernel

/-- EngineServesInTurn: two ports PENDING, and the one after the last served is taken. -/
theorem witness_EngineServesInTurn :
    (asked (asked ready 2 .status) 1 .readLines).nextRequest = some (1, frameOf .readLines) := by decide

/-- UnknownRequestIsAnswered: an unknown code, and an ACK of no known target kind. -/
theorem witness_UnknownRequestIsAnswered :
    ∀ f ∈ [(⟨3, 0x7F, []⟩, Status.badRequest), ((⟨3, 0x1A, [4, 0, 0, 0]⟩ : Frame), Status.badField)],
      ({ ready.setPort 1 { ready.port 1 with holder := .pending f.1 } with lastServed := 0 } : State).LevelLaw ∧
        ready.resetLow = false ∧
        ({ ready.setPort 1 { ready.port 1 with holder := .pending f.1 } with lastServed := 0 } : State).nextRequest =
          some (1, f.1) ∧
        decodeRequest f.1.code f.1.fields = .error f.2 := by decide +kernel

/-- The handle checks of R3 as the statement HandleChecksInOrder lists them. -/
def handleChecks (s : State) (p : Port) (h : RawHandle) (r : Request) : List (Bool × Status) :=
  [(decide (r = .revoke h → p = 0), .notPermitted), ((s.port p).isOpen, .noSession), (decide (h.slot.toNat < 48), .badField),
    (allSlots.any fun i => h.slot.toNat = i.val && (s.permit i).isSome && (s.slot i).gen = h.gen, .staleHandle),
    (decide (r = .revoke h) ||
      allSlots.any fun i => h.slot.toNat = i.val && (s.permit i).any (s.ownedBy p), .notOwner)]

/-- HandleChecksInOrder: each check as the first that fails, at the bounds of the slot number. -/
theorem witness_HandleChecksInOrder :
    ∀ c ∈ [((1 : Port), raw0, Request.revoke raw0, Status.notPermitted), (2, raw0, .arm raw0, .noSession),
        (1, ⟨48, 5⟩, .query ⟨48, 5⟩, .badField), (1, ⟨47, 0⟩, .fire ⟨47, 0⟩, .staleHandle),
        (1, ⟨0, 4⟩, .retire ⟨0, 4⟩, .staleHandle), (0, raw0, .release raw0, .notOwner),
        (1, ⟨48, 5⟩, .ackPermit ⟨48, 5⟩ 0, .badField), (1, ⟨0, 4⟩, .ackPermit ⟨0, 4⟩ 0, .staleHandle),
        (0, raw0, .ackPermit raw0 31, .notOwner)],
      (asked (put ready 0 (mine .idle 0)) c.1 c.2.2.1).LevelLaw ∧
        (asked (put ready 0 (mine .idle 0)) c.1 c.2.2.1).resetLow = false ∧
        (asked (put ready 0 (mine .idle 0)) c.1 c.2.2.1).nextRequest = some (c.1, frameOf c.2.2.1) ∧
        decodeRequest (frameOf c.2.2.1).code (frameOf c.2.2.1).fields = .ok c.2.2.1 ∧
        firstFailure (handleChecks (asked (put ready 0 (mine .idle 0)) c.1 c.2.2.1) c.1 c.2.1 c.2.2.1) = some c.2.2.2 := by
  decide +kernel

/-! ### Witnesses: sessions and the table -/

/-- SessionRequestsAnswer: OPEN on a CLOSED and on an OPEN port, STATUS, and SET_QUOTA at the sum of 48 and above it. -/
theorem witness_SessionRequestsAnswer :
    ((asked ready 2 .openSession).LevelLaw ∧ (asked ready 2 .openSession).Turn 2 (frameOf .openSession) .openSession ∧
        ((asked ready 2 .openSession).port 2).isOpen = false) ∧
      ((asked ready 1 .openSession).Turn 1 (frameOf .openSession) .openSession ∧
        ((asked ready 1 .openSession).port 1).isOpen = true) ∧
      (asked ready 2 .status).Turn 2 (frameOf .status) .status ∧
      ((asked ready 0 (.setQuota 1 16)).Turn 0 (frameOf (.setQuota 1 16)) (.setQuota 1 16) ∧
        (asked ready 0 (.setQuota 1 16)).Supervisor 0 ∧ (1 : Byte).toNat = (1 : Port).val ∧
        ((16 : Byte).toNat ≤ 48 ∧ (ready.port 1).owned ≤ (16 : Byte).toNat ∧
          (16 : Byte).toNat + (ready.port (1 + 1)).quota + (ready.port (1 + 2)).quota ≤ 48)) ∧
      ((asked ready 0 (.setQuota 1 17)).Turn 0 (frameOf (.setQuota 1 17)) (.setQuota 1 17) ∧
        ¬((17 : Byte).toNat ≤ 48 ∧ (ready.port 1).owned ≤ (17 : Byte).toNat ∧
          (17 : Byte).toNat + (ready.port (1 + 1)).quota + (ready.port (1 + 2)).quota ≤ 48)) :=
  ⟨⟨by decide, turn_of (by decide), by decide⟩, ⟨turn_of (by decide), by decide⟩, turn_of (by decide),
    ⟨turn_of (by decide), supervisor_of (by decide), by decide, by decide⟩, turn_of (by decide), by decide⟩

/-- A running permit that runs out its session, and one that does not. -/
def leaving : State := put (put ready 0 { mine .active 2 with orphan := .runOut }) 1 { mine .waiting 1 with lines := 2 }

/-- R151: a new orphan loses its reference to a permit that the teardown retires and keeps the one to another new orphan. -/
theorem test_teardown_drops_references :
    (((ran .closeSession (asked (put leaving 2
        { mine .waiting 1 with orphan := .runOut, lines := 4, trigger := .chain (some (at5 1)), gate := some (at5 0) })
        1 .closeSession)).permit 2).map fun q => (q.owner, q.trigger, q.gate)) =
      some (none, .chain none, some (at5 0)) := by decide +kernel

/-- CloseTearsDownSession: a permit that is retired and one that becomes an orphan. -/
theorem witness_CloseTearsDownSession :
    (asked leaving 1 .closeSession).OwnerLaw ∧ (asked leaving 1 .closeSession).Turn 1 (frameOf .closeSession) .closeSession ∧
      ((asked leaving 1 .closeSession).port 1).isOpen = true ∧
      (asked leaving 1 .closeSession).permit 0 = some { mine .active 2 with orphan := .runOut } ∧
      ({ mine .active 2 with orphan := .runOut } : Permit).outlivesSession = true ∧
      (asked leaving 1 .closeSession).permit 1 = some { mine .waiting 1 with lines := 2 } ∧
      ({ mine .waiting 1 with lines := 2 } : Permit).outlivesSession = false ∧
      ((asked leaving 2 .closeSession).OwnerLaw ∧ (asked leaving 2 .closeSession).Turn 2 (frameOf .closeSession) .closeSession ∧
        ((asked leaving 2 .closeSession).port 2).isOpen = false ∧ (asked leaving 2 .closeSession).LevelLaw) :=
  ⟨by decide +kernel, turn_of (by decide +kernel), by decide +kernel, by decide +kernel, by decide, by decide +kernel, by decide,
    by decide +kernel, turn_of (by decide +kernel), by decide +kernel, by decide +kernel⟩

/-- A CREATE of a PULSE on D4, triggered and gated by what is given. -/
def pulseFields (kind : Byte) (pred : RawHandle) (gatePresent : Byte) (gate : RawHandle) : CreateFields :=
  { shape := 0, lines := 0x10, timebase := 3, trigKind := kind, trigInput := 0x10, pred := pred, gatePresent := gatePresent
    gate := gate, renewal := 0, renewalInput := 0, wait := 0, hold := 65535, rest := 0, repeats := 0, minInterval := 0
    blockLimit := 1, mask := 15 }

/-- The record that the CHAIN-triggered, gated one asks for. -/
def chained : Permit :=
  { mine .idle 0 with
    lines := 0x10, timebase := 3, trigger := .chain (some (at5 0)), gate := some (at5 0), wait := 0, hold := 65535
    blockLimit := some 1, mask := { triggered := true, blocked := true, granted := true, missed := true } }

/-- CreateTakesLowestEmptySlot: a CHAIN-triggered, gated permit, placed after an occupied slot. -/
theorem witness_CreateTakesLowestEmptySlot :
    ∃ (s : State) (p : Port) (f : Frame) (c : CreateFields) (i : SlotId) (q : Permit), s.LevelLaw ∧ s.Turn p f (.create c) ∧
      (s.port p).isOpen = true ∧ s.permit i = none ∧ (∀ j : SlotId, j < i → (s.permit j).isSome = true) ∧
      (s.port p).owned < (s.port p).quota ∧ createRecord { port := p, session := (s.port p).session } c = some q ∧
      s.groupedCount c.lines ≤ 1 ∧
      (∀ h, q.trigger = .chain (some h) → ∃ r, s.resolve h = some r ∧ s.ownedBy p r = true) ∧
      (∀ h, q.gate = some h → ∃ r, s.resolve h = some r ∧ s.ownedBy p r = true) :=
  ⟨asked (put ready 0 (mine .idle 0)) 1 (.create (pulseFields 2 raw0 1 raw0)), 1, frameOf (.create (pulseFields 2 raw0 1 raw0)),
    pulseFields 2 raw0 1 raw0, 1, chained, by decide, turn_of (by decide), by decide, by decide, by decide, by decide,
    by decide +kernel, by decide +kernel, fun h hh => by cases hh; exact ⟨mine .idle 0, by decide +kernel, by decide +kernel⟩,
    fun h hh => by cases hh; exact ⟨mine .idle 0, by decide +kernel, by decide +kernel⟩⟩

/-- CreateRecordHoldsRequest: each shape, trigger source and gate makes a record, and an empty set of lines does not. -/
theorem witness_CreateRecordHoldsRequest :
    (createRecord ⟨1, 7⟩ (pulseFields 0 raw0 0 raw0)).isSome = true ∧
      (createRecord ⟨1, 7⟩ { pulseFields 1 raw0 0 raw0 with shape := 1, rest := 1 }).isSome = true ∧
      (createRecord ⟨1, 7⟩ { pulseFields 2 raw0 1 raw0 with shape := 2, renewal := 1 }).isSome = true ∧
      (createRecord ⟨1, 7⟩ { pulseFields 2 ⟨47, 0⟩ 0 raw0 with shape := 2, renewal := 2, renewalInput := 0x37 }).isSome = true ∧
      createRecord ⟨1, 7⟩ (pulseFields 2 ⟨48, 0⟩ 0 raw0) = none ∧
      createRecord ⟨1, 7⟩ { pulseFields 0 raw0 0 raw0 with lines := 0 } = none := by decide +kernel

/-- The checks of R10 as the statement CreateChecksInOrder lists them. -/
def createChecks (s : State) (p : Port) (c : CreateFields) : List (Bool × Status) :=
  [((s.port p).isOpen, .noSession), (allSlots.any fun i => (s.permit i).isNone, .tableFull),
    (decide ((s.port p).owned < (s.port p).quota), .quotaExceeded),
    ((createRecord { port := p, session := (s.port p).session } c).isSome, .badField),
    (decide (s.groupedCount c.lines ≤ 1), .groupConflict),
    (c.trigKind ≠ 2 || ((handleOf c.pred).bind s.resolve).isSome, .staleHandle),
    (c.trigKind ≠ 2 || ((handleOf c.pred).bind s.resolve).any (s.ownedBy p), .notOwner),
    (c.gatePresent ≠ 1 || ((handleOf c.gate).bind s.resolve).isSome, .staleHandle),
    (c.gatePresent ≠ 1 || ((handleOf c.gate).bind s.resolve).any (s.ownedBy p), .notOwner)]

/-- A state, port and CREATE that fail first at each check, with the status. -/
def failingCreates : List (State × Port × CreateFields × Status) :=
  let one := put ready 0 (mine .idle 0)
  let full := one.mapSlots fun _ _ => { gen := 5, permit := some (mine .idle 0) }
  let spent := one.setPort 1 { one.port 1 with quota := 1 }
  let soft := pulseFields 0 raw0 0 raw0
  [(one, 2, soft, .noSession), (full, 1, soft, .tableFull), (spent, 1, soft, .quotaExceeded),
    (one, 1, { soft with hold := 0 }, .badField), (grouped .free [] one, 1, { soft with lines := 3 }, .groupConflict),
    (one, 1, pulseFields 2 ⟨0, 4⟩ 0 raw0, .staleHandle), (one, 0, pulseFields 2 raw0 0 raw0, .notOwner),
    (one, 1, pulseFields 0 raw0 1 ⟨47, 5⟩, .staleHandle), (one, 0, pulseFields 0 raw0 1 raw0, .notOwner)]

/-- CreateChecksInOrder: each check as the first that fails. -/
theorem witness_CreateChecksInOrder :
    ∀ x ∈ failingCreates,
      (asked x.1 x.2.1 (.create x.2.2.1)).LevelLaw ∧ (asked x.1 x.2.1 (.create x.2.2.1)).resetLow = false ∧
        (asked x.1 x.2.1 (.create x.2.2.1)).nextRequest = some (x.2.1, frameOf (.create x.2.2.1)) ∧
        decodeRequest 0x10 (frameOf (.create x.2.2.1)).fields = .ok (.create x.2.2.1) ∧
        firstFailure (createChecks (asked x.1 x.2.1 (.create x.2.2.1)) x.2.1 x.2.2.1) = some x.2.2.2 := by
  decide +kernel

/-- RetireFreesSlot, from IDLE and from ENDED; no other slot is occupied, so no other permit refers to this one. -/
theorem witness_RetireFreesSlot :
    ((asked (put ready 0 (mine .idle 0)) 1 (.retire raw0)).LevelLaw ∧
        (asked (put ready 0 (mine .idle 0)) 1 (.retire raw0)).Turn 1 (frameOf (.retire raw0)) (.retire raw0) ∧
        (asked (put ready 0 (mine .idle 0)) 1 (.retire raw0)).Passes 1 raw0 0 (mine .idle 0) ∧
        ∀ j : SlotId, j ≠ 0 → (asked (put ready 0 (mine .idle 0)) 1 (.retire raw0)).permit j = none) ∧
      (asked (put ready 0 ended) 1 (.retire raw0)).LevelLaw ∧
      (asked (put ready 0 ended) 1 (.retire raw0)).Turn 1 (frameOf (.retire raw0)) (.retire raw0) ∧
      (asked (put ready 0 ended) 1 (.retire raw0)).Passes 1 raw0 0 ended ∧
      ∀ j : SlotId, j ≠ 0 → (asked (put ready 0 ended) 1 (.retire raw0)).permit j = none :=
  ⟨⟨by decide, turn_of (by decide), passes_of (by decide), by decide +kernel⟩, by decide, turn_of (by decide),
    passes_of (by decide), by decide +kernel⟩

/-- ReportsChangeNothing: QUERY, LIST from slot 0, from slot 47, without a session and from slot 48, and READ_LINES without a
session. -/
theorem witness_ReportsChangeNothing :
    ((asked (put ready 0 (mine .idle 0)) 1 (.query raw0)).LevelLaw ∧
        (asked (put ready 0 (mine .idle 0)) 1 (.query raw0)).Turn 1 (frameOf (.query raw0)) (.query raw0) ∧
        (asked (put ready 0 (mine .idle 0)) 1 (.query raw0)).Passes 1 raw0 0 (mine .idle 0)) ∧
      ((asked ready 0 (.listTable 0)).Turn 0 (frameOf (.listTable 0)) (.listTable 0) ∧ (ready.port 0).isOpen = true) ∧
      ((asked ready 1 (.listTable 47)).Turn 1 (frameOf (.listTable 47)) (.listTable 47) ∧ (47 : Byte).toNat < 48) ∧
      ((asked ready 2 (.listTable 0)).Turn 2 (frameOf (.listTable 0)) (.listTable 0) ∧ (ready.port 2).isOpen = false) ∧
      ((asked ready 1 (.listTable 48)).Turn 1 (frameOf (.listTable 48)) (.listTable 48) ∧ 48 ≤ (48 : Byte).toNat) ∧
      (asked ready 2 .readLines).Turn 2 (frameOf .readLines) .readLines :=
  ⟨⟨by decide, turn_of (by decide), passes_of (by decide)⟩, ⟨turn_of (by decide), by decide⟩,
    ⟨turn_of (by decide), by decide⟩, ⟨turn_of (by decide), by decide⟩, ⟨turn_of (by decide), by decide⟩, turn_of (by decide)⟩

/-- PermitRecordLayout: a permit with an owner, and the bounds of its numbers. -/
theorem witness_PermitRecordLayout : (train .active 1 2).owner = some ⟨1, 7⟩ ∧ 0 < 256 ∧ 255 < 256 ∧ 0 ≤ 65536 ∧ 65536 ≤ 65536 :=
  ⟨rfl, by decide⟩

/-! ### Witnesses: arming and triggers -/

/-- A request of P1 that names the permit in slot 0, as the hypotheses LevelLaw, Turn and Passes together. -/
def takes (s : State) (r : Request) (q : Permit) : Prop :=
  (asked s 1 r).LevelLaw ∧ (asked s 1 r).Turn 1 (frameOf r) r ∧ (asked s 1 r).Passes 1 raw0 0 q

theorem takes_of {s : State} {r : Request} {q : Permit}
    (h : (asked s 1 r).LevelLaw ∧ ((asked s 1 r).resetLow = false ∧ (asked s 1 r).nextRequest = some (1, frameOf r) ∧
        decodeRequest (frameOf r).code (frameOf r).fields = .ok r) ∧
      ((asked s 1 r).port 1).isOpen = true ∧
      (raw0.slot.toNat = (0 : SlotId).val ∧ raw0.gen = ((asked s 1 r).slot 0).gen ∧ (asked s 1 r).permit 0 = some q) ∧
      q.owner = some { port := 1, session := ((asked s 1 r).port 1).session }) : takes s r q := h

/-- ArmStartsArming, from IDLE and from ENDED. -/
theorem witness_ArmStartsArming :
    takes (put ready 0 (mine .idle 0)) (.arm raw0) (mine .idle 0) ∧ takes (put ready 0 ended) (.arm raw0) ended ∧
      ready.quenched = false ∧ (∀ l : LineId, (mine .idle 0).names l = true → (ready.line l).condition.isLocked = false) ∧
      ready.groupedCount (mine .idle 0).lines ≤ 1 ∧ (ready.timebase (mine .idle 0).timebase).running = true :=
  ⟨takes_of (by decide +kernel), takes_of (by decide +kernel), by decide +kernel⟩

/-- The checks of R23 as the statement PermitRequestsCheckInOrder lists them. -/
def armChecks (s : State) (q : Permit) : List (Bool × Status) :=
  [(decide (q.state = .idle ∨ q.state = .ended), .wrongState), (!s.quenched, .quenched),
    (decide (∀ l : LineId, q.names l = true → (s.line l).condition.isLocked = false), .lineLocked),
    (decide (s.groupedCount q.lines ≤ 1), .groupConflict), ((s.timebase q.timebase).running, .timebaseStopped)]

/-- PermitRequestsCheckInOrder: each check of ARM as the first that fails. -/
theorem witness_PermitRequestsCheckInOrder_arm :
    (takes (put ready 0 (mine .armed 0)) (.arm raw0) (mine .armed 0) ∧
        firstFailure (armChecks (put ready 0 (mine .armed 0)) (mine .armed 0)) = some .wrongState) ∧
      (takes { put ready 0 (mine .idle 0) with latch := true } (.arm raw0) (mine .idle 0) ∧
        firstFailure (armChecks { put ready 0 (mine .idle 0) with latch := true } (mine .idle 0)) = some .quenched) ∧
      (takes ((put ready 0 (mine .idle 0)).setLine 0 { ready.line 0 with condition := .locked .manual }) (.arm raw0)
          (mine .idle 0) ∧
        firstFailure (armChecks ((put ready 0 (mine .idle 0)).setLine 0 { ready.line 0 with condition := .locked .manual })
          (mine .idle 0)) = some .lineLocked) ∧
      (takes (grouped .free [] (put ready 0 { mine .idle 0 with lines := 3 })) (.arm raw0) { mine .idle 0 with lines := 3 } ∧
        firstFailure (armChecks (grouped .free [] (put ready 0 { mine .idle 0 with lines := 3 }))
          { mine .idle 0 with lines := 3 }) = some .groupConflict) ∧
      takes (put ready 0 { mine .idle 0 with timebase := 3 }) (.arm raw0) { mine .idle 0 with timebase := 3 } ∧
      firstFailure (armChecks (put ready 0 { mine .idle 0 with timebase := 3 }) { mine .idle 0 with timebase := 3 }) =
        some .timebaseStopped :=
  ⟨⟨takes_of (by decide +kernel), by decide +kernel⟩, ⟨takes_of (by decide +kernel), by decide +kernel⟩,
    ⟨takes_of (by decide +kernel), by decide +kernel⟩, ⟨takes_of (by decide +kernel), by decide +kernel⟩,
    takes_of (by decide +kernel), by decide +kernel⟩

/-- An AMEND of a mask of fields, each value out of range where a range stands. -/
def badAmend (fieldMask : Word) (mode : Byte) : AmendFields :=
  { handle := raw0, mode := mode, fieldMask := fieldMask, wait := 0, hold := 0, rest := 0, repeats := 0, minInterval := 0
    blockLimit := 0, mask := 16, retrigger := 2, orphan := 2 }

/-- PermitRequestsCheckInOrder: each check of the other requests as the first that fails. -/
theorem witness_PermitRequestsCheckInOrder :
    (takes (put ready 0 { mine .armed 0 with trigger := .input 0 .rise }) (.fire raw0)
        { mine .armed 0 with trigger := .input 0 .rise } ∧
      takes (put ready 0 (mine .idle 0)) (.fire raw0) (mine .idle 0) ∧
      takes { put ready 0 (mine .armed 0) with latch := true } (.fire raw0) (mine .armed 0) ∧
      ({ put ready 0 (mine .armed 0) with latch := true } : State).quenched = true) ∧
    takes (put ready 0 (mine .idle 0)) (.release raw0) (mine .idle 0) ∧ takes (put ready 0 ended) (.release raw0) ended ∧
    (asked (put ready 0 ended) 0 (.revoke raw0)).Turn 0 (frameOf (.revoke raw0)) (.revoke raw0) ∧
    (takes (put ready 0 (mine .armed 0)) (.retire raw0) (mine .armed 0) ∧
      takes (put (put ready 0 (mine .idle 0)) 47 { mine .idle 0 with gate := some (at5 0) }) (.retire raw0) (mine .idle 0)) ∧
    (takes (put ready 0 (mine .idle 0)) (.amend (badAmend 512 0)) (mine .idle 0) ∧
      takes (put ready 0 (mine .idle 0)) (.amend (badAmend 4 0)) (mine .idle 0) ∧
      takes (put ready 0 (mine .idle 0)) (.amend (badAmend 1 2)) (mine .idle 0) ∧
      takes (put ready 0 (mine .idle 0)) (.amend (badAmend 64 0)) (mine .idle 0)) ∧
    takes (put ready 0 (mine .idle 0)) (.ackPermit raw0 32) (mine .idle 0) :=
  ⟨⟨takes_of (by decide +kernel), takes_of (by decide +kernel), takes_of (by decide +kernel), by decide⟩,
    takes_of (by decide +kernel), takes_of (by decide +kernel), turn_of (by decide +kernel),
    ⟨takes_of (by decide +kernel), takes_of (by decide +kernel)⟩,
    ⟨takes_of (by decide +kernel), takes_of (by decide +kernel), takes_of (by decide +kernel), takes_of (by decide +kernel)⟩,
    takes_of (by decide +kernel)⟩

/-- TriggersAreDelivered: FIRE on a SOFT permit, and an edge due at a permit. -/
theorem witness_TriggersAreDelivered :
    takes (put ready 0 (mine .armed 0)) (.fire raw0) (mine .armed 0) ∧ (mine .armed 0).trigger = .soft ∧
      (mine .armed 0).state.inService = true ∧ ready.quenched = false ∧
      Due.trigger ((put ready 0 (mine .armed 0)).handle 0) ∈ (due (.trigger (at5 0)) (put ready 0 (mine .armed 0))).due :=
  ⟨takes_of (by decide +kernel), by decide +kernel⟩

/-- A permit gated by the permit in slot 1, which is ACTIVE or not. -/
def gated (st gate : PState) : State :=
  put (put ready 0 { mine st 2 with gate := some (at5 1), retrigger := .restart }) 1 { mine gate 2 with lines := 2 }

/-- TriggersAreJudgedByState: every state and policy, the gate absent, open, and closed. -/
theorem witness_TriggersAreJudgedByState :
    (∀ st ∈ [PState.idle, .arming, .armed, .waiting], (put ready 0 (mine st 0)).permit 0 = some (mine st 0)) ∧
      ready.quenched = false ∧ (mine .armed 0).gate = none ∧ (mine .waiting 0).retrigger = .ignore ∧
      (PState.waiting.running = true ∧ 0 < (mine .armed 0).wait ∧ ({ mine .armed 0 with wait := 0 } : Permit).wait = 0) ∧
      (∀ st ∈ [PState.armed, .waiting], ∀ gate ∈ [PState.active, .waiting],
        ((gated st gate).permit 0).bind Permit.gate = some (at5 1) ∧
          (gated st gate).resolve (at5 1) = some { mine gate 2 with lines := 2 }) := by decide +kernel

/-- RestartActsByState: each running state, wait counts 0 and above, the gate absent, and ACTIVE. -/
theorem witness_RestartActsByState :
    ∀ st ∈ [PState.active, .waiting, .resting, .blocked], ∀ wait ∈ [0, 1],
      (put ready 0 { mine st 2 with retrigger := .restart, wait := wait }).permit 0 =
          some { mine st 2 with retrigger := .restart, wait := wait } ∧
        ({ mine st 2 with retrigger := .restart, wait := wait } : Permit).gate = none ∧
        ((gated st .active).permit 0).map Permit.gate = some (some (at5 1)) ∧
        (gated st .active).resolve (at5 1) = some { mine .active 2 with lines := 2 } := by decide +kernel

/-- RaisedKindsArePending: an orphan, a kind outside the mask, and a reported kind with the pending set empty and not. -/
theorem witness_RaisedKindsArePending :
    (put ready 0 { mine .active 2 with owner := none }).permit 0 = some { mine .active 2 with owner := none } ∧
      (put ready 0 (mine .active 2)).permit 0 = some (mine .active 2) ∧
      (Notice.missed ≠ .ended ∧ (mine .active 2).mask.has .missed = false) ∧ (mine .active 2).pending = {} ∧
      ({ mine .active 2 with pending := { missed := true } } : Permit).pending ≠ {} ∧
      ({ mine .active 2 with mask := { missed := true } } : Permit).mask.has .missed = true := by decide +kernel

/-- ActivationIsAnswered: no grouped line; a FREE group, a group HELD by the line, one HELD by another, one in GAP. -/
theorem witness_ActivationIsAnswered :
    (put ready 0 (mine .waiting 1)).groupedLine (mine .waiting 1).lines = none ∧
      ∀ st ∈ [GroupState.free, .held 0, .held 1, .gap 1],
        (grouped st [] (put ready 0 (mine .waiting 1))).permit 0 = some (mine .waiting 1) ∧
          (grouped st [] (put ready 0 (mine .waiting 1))).groupedLine (mine .waiting 1).lines = some (0, 0) ∧
          ((grouped st [] (put ready 0 (mine .waiting 1))).group 0).state = st := by decide +kernel

/-! ### Witnesses: renewal, amendment and ends -/

/-- RenewRestartsHold: outside and inside the window, the states that answer NOT_ACTIVE, a state that refuses, and a shape that
takes no RENEW. -/
theorem witness_RenewRestartsHold :
    (takes (put ready 0 (lease .active 3 3)) (.renew raw0) (lease .active 3 3) ∧ 3 ≤ (lease .active 3 3).renewalAge) ∧
      (takes (put ready 0 (lease .active 3 2)) (.renew raw0) (lease .active 3 2) ∧ 0 < 3 ∧ (lease .active 3 2).renewalAge < 3) ∧
      takes (put ready 0 (lease .waiting 1 0)) (.renew raw0) (lease .waiting 1 0) ∧
      takes (put ready 0 (lease .blocked 0 0)) (.renew raw0) (lease .blocked 0 0) ∧
      takes (put ready 0 (lease .armed 0 0)) (.renew raw0) (lease .armed 0 0) ∧
      takes (put ready 0 (mine .active 3)) (.renew raw0) (mine .active 3) ∧ ∀ m, (mine .active 3).shape ≠ .lease .port m :=
  ⟨⟨takes_of (by decide +kernel), by decide⟩, ⟨takes_of (by decide +kernel), by decide⟩, takes_of (by decide +kernel),
    takes_of (by decide +kernel), takes_of (by decide +kernel), takes_of (by decide +kernel), nofun⟩

/-- An IMMEDIATE AMEND of the fields of a mask. -/
def amendOf (fieldMask : Word) : AmendFields :=
  { handle := raw0, mode := 1, fieldMask := fieldMask, wait := 0, hold := 1, rest := 1, repeats := 0, minInterval := 0
    blockLimit := 0, mask := 15, retrigger := 1, orphan := 1 }

/-- AmendWritesNamedFields: every field of a TRAIN at a bound of its range, and the minimum renewal interval of a lease. -/
theorem witness_AmendWritesNamedFields :
    (takes (put ready 0 (train .resting 2 1)) (.amend (amendOf 0x1EF)) (train .resting 2 1) ∧
        (amendOf 0x1EF).fieldMask.toNat < 512 ∧ (train .resting 2 1).shape.isTrain = true ∧
        (amendOf 0x1EF).fieldMask.getLsbD 4 = false ∧ (amendOf 0x1EF).mode.toNat < 2 ∧ (amendOf 0x1EF).hold ≠ 0 ∧
        (amendOf 0x1EF).rest ≠ 0 ∧ (amendOf 0x1EF).mask.toNat < 16 ∧ (amendOf 0x1EF).retrigger.toNat < 2 ∧
        (amendOf 0x1EF).orphan.toNat < 2) ∧
      takes (put ready 0 (lease .active 2 1)) (.amend (amendOf 0x1F3)) (lease .active 2 1) ∧
      (lease .active 2 1).shape.isLease = true ∧ (amendOf 0x1F3).fieldMask.getLsbD 2 = false ∧
      (amendOf 0x1F3).fieldMask.getLsbD 3 = false :=
  ⟨⟨takes_of (by decide +kernel), by decide⟩, takes_of (by decide +kernel), by decide⟩

/-- A permit in service in slot 0 and its successor in slot 1. -/
def chain (owner : Option Owner) (st succ : PState) : State :=
  put (put ready 0 { mine st 2 with owner := owner }) 1 { mine succ 0 with lines := 2, trigger := .chain (some (at5 0)) }

/-- A permit in slot 0, a chain of an ARMED and an ARMING successor behind it, an ARMED permit without predecessor, and an ARMED one
behind an IDLE one. -/
def chained0 (q : Permit) : State :=
  put (put (put (put (put (put ready 0 q) 1 { mine .armed 0 with lines := 2, trigger := .chain (some (at5 0)) }) 2
    { mine .arming 0 with lines := 2, trigger := .chain (some (at5 1)) }) 3 { mine .armed 0 with lines := 2 }) 4
    { mine .armed 0 with lines := 2, trigger := .chain (some (at5 5)) }) 5 { mine .idle 0 with lines := 2 }

/-- What the ends of one happening that begin at slot 0 leave of chained0: the chain ended UPSTREAM, the others as they were. -/
def chainEnded (q : Permit) (t : State) : Bool :=
  (t.permit 1).map (fun r => (r.state, r.endReason)) = some (.ended, some .upstream) &&
    (t.permit 2).map (fun r => (r.state, r.endReason)) = some (.ended, some .upstream) &&
    ([3, 4, 5] : List SlotId).all fun j => t.slot j = (chained0 q).slot j

/-- The hypotheses of the clauses of State.EndsLeave, met in the state that each happening leaves (R63, R64, R107, R114): a REVOKE of an owned
permit and of an orphan, a lock by either command, a quench, an expiry, a starvation and an early renewal. -/
theorem witness_EndsLeave :
    chainEnded (mine .active 2) (ran .revoke (asked (chained0 (mine .active 2)) 0 (.revoke raw0))) = true ∧
      chainEnded { mine .active 2 with owner := none }
        (ran .revoke (asked (chained0 { mine .active 2 with owner := none }) 0 (.revoke raw0))) = true ∧
      chainEnded (mine .active 2) (ran .lockLine (asked (chained0 (mine .active 2)) 0 (.lockLine 0))) = true ∧
      chainEnded (mine .active 2) (ran (.senseLock 0 false) (due (.lineTick 0 0) ((chained0 (mine .active 2)).setLine 0
        { (chained0 (mine .active 2)).line 0 with senseOn := true }))) = true ∧
      chainEnded (mine .active 2) (ran (.quenchPinChange true) (chained0 (mine .active 2))) = true ∧
      chainEnded (lease .active 1 3) (ran (.leaseExpiry 0) (due (.permitTick (at5 0)) (chained0 (lease .active 1 3)))) = true ∧
      chainEnded { mine .blocked 0 with blockLimit := some 1 } (ran (.starvation 0) (due (.permitTick (at5 0))
        (chained0 { mine .blocked 0 with blockLimit := some 1 }))) = true ∧
      chainEnded { lease .active 2 2 with shape := .lease (.input 0 .rise) 3 } (ran (.inputRenewal 0) (due (.renewal (at5 0))
        (chained0 { lease .active 2 2 with shape := .lease (.input 0 .rise) 3 }))) = true := by decide +kernel

/-- ReleaseEndsNormally, with an ARMED successor. -/
theorem witness_ReleaseEndsNormally :
    takes (chain (some ⟨1, 7⟩) .active .armed) (.release raw0) (mine .active 2) ∧ PState.active.inService = true ∧
      ((asked (chain (some ⟨1, 7⟩) .active .armed) 1 (.release raw0)).permit 1 =
          some { mine .armed 0 with lines := 2, trigger := .chain (some (at5 0)) } ∧
        (asked (chain (some ⟨1, 7⟩) .active .armed) 1 (.release raw0)).handle 0 = at5 0 ∧
        (mine .armed 0).gate = none ∧ 0 < (mine .armed 0).wait ∧
        (asked (chain (some ⟨1, 7⟩) .active .armed) 1 (.release raw0)).quenched = false ∧ (mine .armed 0).owner ≠ none) :=
  ⟨takes_of (by decide +kernel), by decide, by decide +kernel⟩

/-- RevokeEndsAbnormally: an owned permit and an orphan, each with an ARMING successor. -/
theorem witness_RevokeEndsAbnormally :
    ∀ o ∈ [some (⟨1, 7⟩ : Owner), none],
      (asked (chain o .active .arming) 0 (.revoke raw0)).resetLow = false ∧
        (asked (chain o .active .arming) 0 (.revoke raw0)).nextRequest = some (0, frameOf (.revoke raw0)) ∧
        decodeRequest (frameOf (.revoke raw0)).code (frameOf (.revoke raw0)).fields = .ok (.revoke raw0) ∧
        ((asked (chain o .active .arming) 0 (.revoke raw0)).port 0).isOpen = true ∧
        (raw0.slot.toNat = (0 : SlotId).val ∧ raw0.gen = ((asked (chain o .active .arming) 0 (.revoke raw0)).slot 0).gen ∧
          (asked (chain o .active .arming) 0 (.revoke raw0)).permit 0 = some { mine .active 2 with owner := o }) ∧
        (asked (chain o .active .arming) 0 (.revoke raw0)).permit 1 =
          some { mine .arming 0 with lines := 2, trigger := .chain (some (at5 0)) } ∧
        PState.active.inService = true ∧ PState.arming.awaitingTrigger = true := by decide +kernel

/-! ### Witnesses: ticks -/

/-- A tick due at the permit in slot 0, with the hypotheses that every tick shares. -/
def ticking (q : Permit) : State := due (.permitTick (at5 0)) (put ready 0 q)

/-- A BLOCKED permit with a block limit and a blocked age. -/
def blockedFor (limit : Option Nat) (age : Nat) : Permit := { mine .blocked 0 with blockLimit := limit, blockedAge := age }

/-- TicksAreCounted and PhasesEndAtTheirLastTick: every state, the last tick of a phase and the one before it, the block limit
reached, one short of it, and absent. -/
theorem witness_Ticks :
    ∀ q ∈ [mine .arming 0, mine .waiting 2, mine .waiting 1, train .resting 2 1, train .resting 1 1, mine .active 2,
        mine .active 1, train .active 1 1, train .active 1 2, lease .active 1 2, lease .active 2 3, mine .idle 0, mine .armed 0,
        ended, blockedFor none 0, blockedFor (some 2) 0, blockedFor (some 2) 1],
      (ticking q).LevelLaw ∧ (ticking q).resetLow = false ∧ (ticking q).permit 0 = some q ∧
        Due.permitTick ((ticking q).handle 0) ∈ (ticking q).due := by decide +kernel

/-! ### Witnesses: lines, groups and quench -/

/-- LineAndGroupSettingsAreWritten: SET_LINE and SET_GROUP with nothing in service, CLEAR_LINE on a LOCKED line. -/
theorem witness_LineAndGroupSettingsAreWritten :
    ((asked ready 0 (.setLine 15 1 1 255 3 1)).LevelLaw ∧ (asked ready 0 (.setLine 15 1 1 255 3 1)).Supervisor 0 ∧
        (asked ready 0 (.setLine 15 1 1 255 3 1)).Turn 0 (frameOf (.setLine 15 1 1 255 3 1)) (.setLine 15 1 1 255 3 1) ∧
        ∀ i : SlotId, (asked ready 0 (.setLine 15 1 1 255 3 1)).permit i = none) ∧
      ((asked (ready.setLine 0 { ready.line 0 with condition := .locked .sense }) 0 (.clearLine 0)).Turn 0
          (frameOf (.clearLine 0)) (.clearLine 0) ∧
        ((asked (ready.setLine 0 { ready.line 0 with condition := .locked .sense }) 0 (.clearLine 0)).line 0).condition =
          .locked .sense) ∧
      (asked ready 0 (.setGroup 7 0x8003 255 3)).Turn 0 (frameOf (.setGroup 7 0x8003 255 3)) (.setGroup 7 0x8003 255 3) ∧
      (2 ≤ lineCount 0x8003 ∧ lineCount 0x8003 ≤ 4) ∧ lineCount 0 = 0 ∧ (ready.group 7).state = .free ∧
      ∀ (g : GroupId) (l : LineId), (ready.group g).has l = false :=
  ⟨⟨by decide, supervisor_of (by decide), turn_of (by decide), by decide +kernel⟩, ⟨turn_of (by decide), by decide⟩,
    turn_of (by decide), by decide +kernel⟩

/-- A tick of TB0 due at line 0, with its check ON, a tolerance and a mismatch count. -/
def sensing (on : Bool) (tolerance mismatch : Nat) (c : Condition) : State :=
  due (.lineTick 0 0)
    ((put ready 0 (mine .active 2)).setLine 0
      { (put ready 0 (mine .active 2)).line 0 with
        senseOn := on, tolerance := tolerance, mismatch := mismatch, condition := c })

/-- LocksEndPermits: a LOCK_LINE on a NORMAL line that an ACTIVE permit names, and a tick at which the mismatch count reaches the
tolerance. -/
theorem witness_LocksEndPermits :
    ((asked (put ready 0 (mine .active 2)) 0 (.lockLine 0)).Turn 0 (frameOf (.lockLine 0)) (.lockLine 0) ∧
        (asked (put ready 0 (mine .active 2)) 0 (.lockLine 0)).Supervisor 0 ∧
        ((asked (put ready 0 (mine .active 2)) 0 (.lockLine 0)).line 0).condition = .normal ∧
        (asked (put ready 0 (mine .active 2)) 0 (.lockLine 0)).permit 0 = some (mine .active 2) ∧
        (mine .active 2).names 0 = true) ∧
      (sensing true 3 2 .normal).resetLow = false ∧
      Due.lineTick ((sensing true 3 2 .normal).line 0).checkTimebase 0 ∈ (sensing true 3 2 .normal).due ∧
      ((sensing true 3 2 .normal).line 0).senseOn = true ∧ ((sensing true 3 2 .normal).line 0).condition = .normal ∧
      false ≠ ((sensing true 3 2 .normal).line 0).expectedSense ∧
      ((sensing true 3 2 .normal).line 0).mismatch + 1 = ((sensing true 3 2 .normal).line 0).tolerance :=
  ⟨⟨turn_of (by decide +kernel), supervisor_of (by decide +kernel), by decide +kernel⟩, by decide +kernel⟩

/-- SenseCheckCompares: the check OFF, the line LOCKED, and a NORMAL checked line below its tolerance and at it. -/
theorem witness_SenseCheckCompares :
    ∀ s ∈ [sensing false 1 0 .normal, sensing true 1 0 (.locked .manual), sensing true 3 1 .normal, sensing true 3 2 .normal],
      s.LevelLaw ∧ s.resetLow = false ∧ Due.lineTick (s.line 0).checkTimebase 0 ∈ s.due ∧ (s.line 0).expectedSense = true := by
  decide +kernel

/-- A tick of TB0 due at G0, two permits BLOCKED on D0 and one on D1. -/
def gapping (st : GroupState) (queue : List Handle) : State :=
  due (.groupTick 0 0) (grouped st queue
    (put (put (put ready 0 (mine .blocked 0)) 1 { mine .blocked 0 with lines := 2 }) 2 (mine .blocked 0)))

/-- GapsAreCountedAndGrant: a tick in FREE and HELD, one short of the gap's end, and the last one with an empty queue and with three
waiting, of which the second follows the head and the third names the other line. -/
theorem witness_GapsAreCountedAndGrant :
    (∀ s ∈ [gapping .free [], gapping (.held 0) [], gapping (.gap 2) [], gapping (.gap 1) [],
          gapping (.gap 1) [at5 0, at5 2, at5 1]],
        s.LevelLaw ∧ s.resetLow = false ∧ Due.groupTick (s.group 0).timebase 0 ∈ s.due) ∧
      ((gapping (.gap 1) [at5 0, at5 2, at5 1]).group 0).queue = [at5 0, at5 2, at5 1] ∧
      (∀ h ∈ [at5 0, at5 2],
        (gapping (.gap 1) [at5 0, at5 2, at5 1]).resolve h = some (mine .blocked 0) ∧
          (gapping (.gap 1) [at5 0, at5 2, at5 1]).memberLine 0 (mine .blocked 0) = some 0) ∧
      (gapping (.gap 1) [at5 0, at5 2, at5 1]).memberLine 0 { mine .blocked 0 with lines := 2 } = some 1 := by decide +kernel

/-- QuenchIsTakenUp: QUENCH_SET, QUENCH_CLEAR and a change of the pin, outside quench and in it. -/
theorem witness_QuenchIsTakenUp :
    ((asked (put ready 0 (mine .active 2)) 0 .quenchSet).Turn 0 (frameOf .quenchSet) .quenchSet ∧
        ((asked (put ready 0 (mine .active 2)) 0 .quenchSet).port 0).isOpen = true ∧
        (asked (put ready 0 (mine .active 2)) 0 .quenchSet).quenched = false ∧
        (asked (put ready 0 (mine .active 2)) 0 .quenchSet).permit 0 = some (mine .active 2)) ∧
      ((asked { ready with quenchLow := true } 0 .quenchSet).LevelLaw ∧
        (asked { ready with quenchLow := true } 0 .quenchSet).Turn 0 (frameOf .quenchSet) .quenchSet ∧
        (asked { ready with quenchLow := true } 0 .quenchSet).quenched = true) ∧
      ((asked { ready with latch := true } 0 .quenchClear).LevelLaw ∧
        (asked { ready with latch := true } 0 .quenchClear).Turn 0 (frameOf .quenchClear) .quenchClear) ∧
      ((put ready 0 (mine .waiting 2)).resetLow = false ∧ (put ready 0 (mine .waiting 2)).quenched = false) ∧
      (∀ succ ∈ [PState.arming, .armed, .idle],
        (chain (some ⟨1, 7⟩) .active succ).permit 0 = some (mine .active 2) ∧
          (chain (some ⟨1, 7⟩) .active succ).permit 1 =
            some { mine succ 0 with lines := 2, trigger := .chain (some ((chain (some ⟨1, 7⟩) .active succ).handle 0)) }) ∧
      (({ ready with quenchLow := true } : State).LevelLaw ∧ ({ ready with quenchLow := true } : State).quenched = true) ∧
      ((ready.port 0).isOpen = true ∧ Entry.quench ∉ (ready.port 0).attention ∧ (State.reset.port 0).isOpen = false ∧
        Entry.quench ∈ (ready.placeQuenchEntry.port 0).attention) :=
  ⟨⟨turn_of (by decide +kernel), by decide +kernel⟩, ⟨by decide, turn_of (by decide), by decide⟩,
    ⟨by decide, turn_of (by decide)⟩, by decide +kernel, by decide +kernel, by decide +kernel, by decide⟩

/-! ### Witnesses: attention, time and inputs -/

/-- P1's ENDED permit with its entry on P1's list. -/
def noticed : State :=
  let s := put ready 0 { ended with pending := { ended := true } }
  s.setPort 1 { s.port 1 with attention := [.permit (at5 0)] }

/-- AttentionIsReadAndAcknowledged: every request, the ACK of all that is pending and of none of it. -/
theorem witness_AttentionIsReadAndAcknowledged :
    ((asked noticed 1 .nextAttention).LevelLaw ∧ ((asked noticed 1 .nextAttention).port 1).isOpen = true ∧
        (asked noticed 1 .nextAttention).Turn 1 (frameOf .nextAttention) .nextAttention ∧
        (asked noticed 1 .nextAttention).resolve (at5 0) = some { ended with pending := { ended := true } }) ∧
      takes noticed (.ackPermit raw0 31) { ended with pending := { ended := true } } ∧
      takes noticed (.ackPermit raw0 0) { ended with pending := { ended := true } } ∧ (31 : Byte).toNat < 32 ∧
      ((asked ready 2 .nextAttention).Turn 2 (frameOf .nextAttention) .nextAttention ∧ (ready.port 2).isOpen = false ∧
        (asked ready 2 (.ackPermit raw0 0)).Turn 2 (frameOf (.ackPermit raw0 0)) (.ackPermit raw0 0)) ∧
      (asked ready 0 (.ackLine 15)).Turn 0 (frameOf (.ackLine 15)) (.ackLine 15) ∧
      (asked ready 0 .ackQuench).Turn 0 (frameOf .ackQuench) .ackQuench ∧ (ready.port 0).isOpen = true :=
  ⟨⟨by decide +kernel, by decide +kernel, turn_of (by decide +kernel), by decide +kernel⟩, takes_of (by decide +kernel),
    takes_of (by decide +kernel), by decide, ⟨turn_of (by decide), by decide, turn_of (by decide)⟩, turn_of (by decide),
    turn_of (by decide), by decide⟩

/-- TimebaseRequestsAnswer: SET_TIMEBASE on a STOPPED timebase, on a RUNNING one of the same source and of another,
START_TIMEBASE, and STOP_TIMEBASE without users. -/
theorem witness_TimebaseRequestsAnswer :
    ((asked ready 0 (.setTimebase 1 1 0 0)).LevelLaw ∧ (asked ready 0 (.setTimebase 1 1 0 0)).Supervisor 0 ∧
        (asked ready 0 (.setTimebase 1 1 0 0)).Turn 0 (frameOf (.setTimebase 1 1 0 0)) (.setTimebase 1 1 0 0) ∧
        sourceOf 1 1 0 = some (.tick 0) ∧ (ready.timebase 1).running = false) ∧
      ((asked ready 0 (.setTimebase 0 0 0 65535)).Turn 0 (frameOf (.setTimebase 0 0 0 65535)) (.setTimebase 0 0 0 65535) ∧
        sourceOf 0 0 0 = some .refclk ∧ (ready.timebase 0).source = .refclk ∧ (ready.timebase 0).running = true) ∧
      ((asked ready 0 (.setTimebase 0 2 0x37 1)).Turn 0 (frameOf (.setTimebase 0 2 0x37 1)) (.setTimebase 0 2 0x37 1) ∧
        sourceOf 0 2 0x37 = some (.edge 7 .both)) ∧
      (asked ready 0 (.startTimebase 3)).Turn 0 (frameOf (.startTimebase 3)) (.startTimebase 3) ∧
      (ready.timebase 3).running = false ∧ (∀ j, (ready.timebase 3).source ≠ .tick j) ∧
      (asked ready 0 (.stopTimebase 0)).Turn 0 (frameOf (.stopTimebase 0)) (.stopTimebase 0) ∧
      (∀ i : SlotId, ready.permit i = none) ∧ (∀ g : GroupId, (ready.group g).state = .free) ∧
      (∀ l : LineId, (ready.line l).senseOn = false) ∧ ∀ j : TimebaseId, (ready.timebase j).source ≠ .tick 0 :=
  ⟨⟨by decide, supervisor_of (by decide), turn_of (by decide), by decide, by decide⟩, ⟨turn_of (by decide), by decide⟩,
    ⟨turn_of (by decide), by decide⟩, turn_of (by decide), by decide, by decide, turn_of (by decide), by decide +kernel⟩

/-- A timebase RUNNING or STOPPED with a source and a running count, and a happening on its way to it. -/
def clocked (source : TimebaseSource) (running : Bool) (count : Nat) (d : Due) : State :=
  due d (ready.setTimebase 1 { ready.timebase 1 with source := source, running := running, divisor := 2, count := count })

theorem sourceEvent_refclk {s : State} {k : TimebaseId} (h : (s.timebase k).source = .refclk) : s.SourceEvent k s := by
  simp only [State.SourceEvent, h]

theorem sourceEvent_tick {s s0 : State} {k j : TimebaseId} (h : (s.timebase k).source = .tick j)
    (hd : Due.sourceTick j k ∈ s.due ∧ s0 = { s with due := s.due.erase (.sourceTick j k) }) : s.SourceEvent k s0 := by
  unfold State.SourceEvent; rw [h]; exact hd

theorem sourceEvent_edge {s s0 : State} {k : TimebaseId} {n : InputId} {e : Edge} (rising : Bool)
    (h : (s.timebase k).source = .edge n e)
    (hd : e.takes rising = true ∧ Due.sourceEdge n rising k ∈ s.due ∧
      s0 = { s with due := s.due.eraseP (Due.isSourceEdge n e k) }) : s.SourceEvent k s0 := by
  unfold State.SourceEvent; rw [h]; exact ⟨rising, hd⟩

/-- SourceEventsCountAndTick: a STOPPED timebase, and a RUNNING one before its last event and at it, from each source. -/
theorem witness_SourceEventsCountAndTick :
    ((clocked .refclk false 2 (.sourceTick 0 1)).SourceEvent 1 (clocked .refclk false 2 (.sourceTick 0 1)) ∧
        ((clocked .refclk false 2 (.sourceTick 0 1)).timebase 1).running = false) ∧
      ((clocked (.tick 0) true 2 (.sourceTick 0 1)).SourceEvent 1 { clocked (.tick 0) true 2 (.sourceTick 0 1) with due := [] } ∧
        ((clocked (.tick 0) true 2 (.sourceTick 0 1)).timebase 1).running = true ∧
        1 < ((clocked (.tick 0) true 2 (.sourceTick 0 1)).timebase 1).count) ∧
      (clocked (.edge 7 .fall) true 1 (.sourceEdge 7 false 1)).SourceEvent 1
        { clocked (.edge 7 .fall) true 1 (.sourceEdge 7 false 1) with due := [] } ∧
      ((clocked (.edge 7 .fall) true 1 (.sourceEdge 7 false 1)).timebase 1).count = 1 ∧ ready.resetLow = false :=
  ⟨⟨sourceEvent_refclk (by decide), by decide⟩, ⟨sourceEvent_tick (j := 0) (by decide) (by decide +kernel), by decide⟩,
    sourceEvent_edge (n := 7) (e := .fall) false (by decide) (by decide +kernel), by decide⟩

/-- InputsAreConditioned: SET_INPUT at the bounds of its ranges, and every case of a sample. -/
theorem witness_InputsAreConditioned :
    (∀ d ∈ [(1 : Byte), 7], (asked ready 0 (.setInput 7 d 3)).LevelLaw ∧
        (asked ready 0 (.setInput 7 d 3)).resetLow = false ∧
        (asked ready 0 (.setInput 7 d 3)).nextRequest = some (0, frameOf (.setInput 7 d 3)) ∧
        decodeRequest (frameOf (.setInput 7 d 3)).code (frameOf (.setInput 7 d 3)).fields = .ok (.setInput 7 d 3) ∧
        (ready.port 0).isOpen = true ∧ (1 ≤ d.toNat ∧ d.toNat ≤ 7) ∧ dividerOf 3 = some .by512) ∧
      ready.resetLow = false ∧ ((ready.input 7).phase = 1 ∧ (ready.input 7).sampled = false) ∧
      1 < ({ ready.input 7 with phase := 2 } : Input).phase ∧
      ({ ready.input 7 with sampled := true } : Input).sampled = true ∧
      (true ≠ ({ ready.input 7 with sampled := true } : Input).level) ∧
      ({ ready.input 7 with sampled := true } : Input).agreement + 1 = ({ ready.input 7 with sampled := true } : Input).depth ∧
      ({ ready.input 7 with sampled := true, depth := 2 } : Input).agreement + 1 ≠
        ({ ready.input 7 with sampled := true, depth := 2 } : Input).depth := by decide +kernel

/-- A lease renewed by rising edges of T0, and an edge due at it. -/
def edgeLease (owner : Option Owner) (st : PState) (age : Nat) : State :=
  due (.renewal (at5 0)) (put ready 0 { lease st 2 age with owner := owner, shape := .lease (.input 0 .rise) 3 })

/-- InputRenewalsAreTaken: a lease that is not ACTIVE, an orphan, and an owned ACTIVE lease outside its window and inside it. -/
theorem witness_InputRenewalsAreTaken :
    ∀ c ∈ [(some (⟨1, 7⟩ : Owner), PState.armed, 0), (none, .active, 3), (some ⟨1, 7⟩, .active, 3), (some ⟨1, 7⟩, .active, 2)],
      (edgeLease c.1 c.2.1 c.2.2).LevelLaw ∧ (edgeLease c.1 c.2.1 c.2.2).resetLow = false ∧
        (edgeLease c.1 c.2.1 c.2.2).permit 0 =
          some { lease c.2.1 2 c.2.2 with owner := c.1, shape := .lease (.input 0 .rise) 3 } ∧
        Due.renewal ((edgeLease c.1 c.2.1 c.2.2).handle 0) ∈ (edgeLease c.1 c.2.1 c.2.2).due := by decide +kernel

/-! ### Witnesses: the checks of the supervisor requests -/

/-- SupervisorRequestsCheckInOrder: each request with a check of its own that fails first, by state, and the request. -/
def failingRequests : List (State × Request) :=
  let line := fun c => ready.setLine 15 { ready.line 15 with condition := c }
  [(ready, .setTimebase 4 0 0 1), (ready, .setTimebase 0 1 0 1), (ready, .startTimebase 4), (ready, .stopTimebase 4),
    (ready, .startTimebase 0), (ready.setTimebase 3 { ready.timebase 3 with source := .tick 2 }, .startTimebase 3),
    (ready, .stopTimebase 3), (put ready 47 (mine .armed 0), .stopTimebase 0),
    (ready.setGroup 7 { ready.group 7 with state := .gap 1 }, .stopTimebase 0),
    (ready.setLine 15 { ready.line 15 with senseOn := true }, .stopTimebase 0),
    (ready.setTimebase 3 { ready.timebase 3 with source := .tick 0, running := true }, .stopTimebase 0),
    (ready, .setInput 8 1 0), (ready, .setInput 0 0 0), (ready, .setInput 0 8 0), (ready, .setInput 0 7 4),
    (ready, .setLine 16 0 0 1 0 0), (ready, .setLine 0 0 0 0 0 0), (put ready 47 (mine .armed 0), .setLine 0 0 0 1 0 0),
    (ready, .setGroup 8 0 0 0), (ready, .setGroup 0 1 0 0), (ready, .setGroup 0 31 0 0),
    (grouped .free [] ready, .setGroup 7 3 0 0), (grouped (.gap 1) [] ready, .setGroup 0 3 0 0),
    (put ready 47 (mine .armed 0), .setGroup 7 3 0 0), (ready, .lockLine 16), (line (.locked .sense), .lockLine 15),
    (ready, .clearLine 16), (line .normal, .clearLine 15), (ready, .ackLine 16), (ready, .setQuota 3 0)]

theorem witness_SupervisorRequestsCheckInOrder :
    (∀ x ∈ failingRequests, (asked x.1 0 x.2).LevelLaw ∧
        ((asked x.1 0 x.2).resetLow = false ∧ (asked x.1 0 x.2).nextRequest = some (0, frameOf x.2) ∧
          decodeRequest (frameOf x.2).code (frameOf x.2).fields = .ok x.2) ∧ ((asked x.1 0 x.2).port 0).isOpen = true) ∧
      ∀ r ∈ [Request.quenchSet, .quenchClear, .clearTable, .ackQuench, .ackLine 0, .lockLine 0, .clearLine 0, .startTimebase 0,
          .stopTimebase 0, .setTimebase 0 0 0 1, .setInput 0 1 0, .setLine 0 0 0 1 0 0, .setGroup 0 0 0 0, .setQuota 0 16],
        ∀ x ∈ [(1, ready), ((0 : Port), ready.setPort 0 { ready.port 0 with isOpen := false })],
          (asked x.2 x.1 r).LevelLaw ∧ (asked x.2 x.1 r).resetLow = false ∧
            (asked x.2 x.1 r).nextRequest = some (x.1, frameOf r) ∧
            decodeRequest (frameOf r).code (frameOf r).fields = .ok r ∧
            (x.1 ≠ 0 ∨ ((asked x.2 x.1 r).port 0).isOpen = false) := by decide +kernel

/-! ### Witnesses: the laws, all at once -/

/-- G0 HELD by D0, its claimant in slot 0, a permit for D1 BLOCKED with its notice on P1's list and the claimant as its gate, D5
LOCKED, and a tick due. -/
def busyWith (gap : Nat) (q : Permit) : State :=
  let s := grouped (.held 0) [at5 1] (put (put ready 0 q) 1
    { mine .blocked 0 with
      lines := 2, gate := some (at5 0), mask := { blocked := true }, pending := { blocked := true } })
  let s := s.setGroup 0 { s.group 0 with gap := gap }
  let s := s.setPort 1 { s.port 1 with attention := [.permit (at5 1)] }
  let s := s.setLine 5 { s.line 5 with condition := .locked .manual }
  { due (.permitTick (at5 0)) s with pending := [.phaseTick 0] }

/-- The same with a PULSE. -/
def busy : State := busyWith 2 (mine .active 2)

/-- Every law of the part holds of a state with an ACTIVE and a BLOCKED permit, from which the step answers a next state. -/
theorem witness_laws :
    busy.ExclusionLaw ∧ busy.BlockedLaw ∧ busy.QueueLaw ∧ busy.LockLaw ∧ busy.QuenchLaw ∧ busy.QuotaLaw ∧ busy.OwnerLaw ∧
      busy.CountLaw ∧ busy.ListLaw ∧ busy.TimebaseLaw ∧ busy.InputLaw ∧ busy.RecordLaw ∧ busy.OrphanLaw ∧ busy.ReferenceLaw ∧
      busy.DueLaw ∧ step busy = .next (ran (.phaseTick 0) { busy with pending := [] }) := by
  refine ⟨⟨by decide +kernel, by decide +kernel, by decide +kernel, by decide +kernel, fun g => State.claimsAllowed_of ?_⟩,
    by decide +kernel, State.queueLaw_of (by decide +kernel), by decide +kernel, by decide +kernel, by decide +kernel,
    by decide +kernel, by decide +kernel, State.listLaw_of ?_ (by decide +kernel), ?_, by decide +kernel, by decide +kernel,
    by decide +kernel, by decide +kernel, fun d hd => ?_, rfl⟩
  · revert g; decide +kernel
  · decide +kernel
  · unfold State.TimebaseLaw; decide +kernel
  · cases List.mem_singleton.mp (show d ∈ [Due.permitTick (at5 0)] from hd)
    exact ⟨mine .active 2, by decide +kernel, rfl⟩

/-- ReferencesAreKept: an orphan whose gate is another orphan. -/
theorem witness_ReferencesAreKept :
    ∀ s ∈ [put (put ready 0 { mine .active 2 with owner := none }) 1
        { mine .waiting 1 with owner := none, gate := some (at5 0), lines := 2 }],
      s.OwnerLaw ∧ s.OrphanLaw ∧ s.ReferenceLaw := by decide +kernel

/-- ClearTableEmptiesTable, with every law it names. -/
theorem witness_ClearTableEmptiesTable :
    (asked busy 0 .clearTable).Turn 0 (frameOf .clearTable) .clearTable ∧ (asked busy 0 .clearTable).Supervisor 0 ∧
      (asked busy 0 .clearTable).ExclusionLaw ∧ (asked busy 0 .clearTable).QueueLaw ∧ (asked busy 0 .clearTable).OwnerLaw ∧
      (asked busy 0 .clearTable).CountLaw ∧ (asked busy 0 .clearTable).ListLaw := by
  refine ⟨turn_of (by decide +kernel), supervisor_of (by decide +kernel),
    ⟨by decide +kernel, by decide +kernel, by decide +kernel, by decide +kernel, fun g => State.claimsAllowed_of ?_⟩,
    State.queueLaw_of (by decide +kernel), by decide +kernel, by decide +kernel, State.listLaw_of ?_ (by decide +kernel)⟩
  · revert g; decide +kernel
  · decide +kernel

/-- G0 of a gap, HELD by D0, its claimant in slot 0, with or without a permit for D1 BLOCKED at its block limit, D0's check ON, a transaction
on P1, and ticks and an edge due. -/
def holding (c : Nat × Bool × Permit) : State :=
  let s := put ready 0 c.2.2
  let s := if c.2.1 then put s 1 { mine .blocked 0 with lines := 2, blockLimit := some 1 } else s
  let s := shifting .idle (grouped (.held 0) (if c.2.1 then [at5 1] else []) s)
  let s := (s.setGroup 0 { s.group 0 with gap := c.1 }).setLine 0 { s.line 0 with senseOn := true }
  { s with due := [.permitTick (at5 0), .permitTick (at5 1), .renewal (at5 0), .lineTick 0 0] }

/-- Groups by gap and queue, with claimants of D0 that the next happening takes off it, or restarts. -/
def lastClaimants : List (Nat × Bool × Permit) :=
  [(0, false, { lease .active 1 3 with lines := 1 }), (0, true, { lease .active 1 3 with lines := 1 }),
    (2, false, { lease .active 1 3 with lines := 1 }), (2, true, { train .active 1 1 with lines := 1 }),
    (2, true, { train .active 1 2 with lines := 1 }), (0, false, mine .active 1),
    (0, true, { mine .active 2 with retrigger := .restart }),
    (0, true, { lease .active 2 2 with lines := 1, shape := .lease (.input 0 .rise) 3 })]

/-- GroupsTakeReleases, the ticks, the renewal, the restart, the sense lock and the break: the last claimant of each shape, with a
gap and without, a queue and none. The hypotheses that concern the claimant alone can be read off it. -/
theorem witness_GroupsTakeReleases :
    ∀ c ∈ lastClaimants,
      ((holding c).ExclusionLaw ∧ (holding c).BlockedLaw ∧ (holding c).QueueLaw) ∧
        (holding c).OwnerLaw ∧ (holding c).resetLow = false ∧ (holding c).permit 0 = some c.2.2 ∧
        c.2.2.names 0 = true ∧ ((holding c).group 0).state = .held 0 ∧ ((holding c).group 0).gap = c.1 ∧
        ((holding c).line 0).claims = 1 ∧ ((holding c).group 0).queue = (if c.2.1 then [at5 1] else []) ∧
        (∀ d ∈ [Due.permitTick ((holding c).handle 0), .renewal ((holding c).handle 0),
          .lineTick ((holding c).line 0).checkTimebase 0], d ∈ (holding c).due) ∧
        (c.2.1 = true → Due.permitTick ((holding c).handle 1) ∈ (holding c).due ∧
          (holding c).permit 1 = some { mine .blocked 0 with lines := 2, blockLimit := some 1 }) ∧
        ((holding c).line 0).condition = .normal ∧ ((holding c).line 0).senseOn = true ∧
        false ≠ ((holding c).line 0).expectedSense ∧
        ((holding c).line 0).mismatch + 1 = ((holding c).line 0).tolerance ∧
        ((holding c).port 1).isOpen = true ∧ ((holding c).port 1).transaction.isSome = true ∧
        ∀ j : SlotId, ∀ r ∈ (holding c).permit j,
          r.trigger = .chain (some ((holding c).handle 0)) → r.state.inService = false := by
  have all : ∀ c ∈ lastClaimants, (holding c).GroupLawsHold := by decide +kernel
  intro c hc
  refine ⟨State.groupLaws_of (all c hc), ?_⟩
  revert c; decide +kernel

/-- GroupsTakeReleases, the requests: REVOKE, RELEASE, LOCK_LINE and CLOSE at the last claimant, with a gap and without, a queue and
none. -/
theorem witness_GroupsTakeReleases_requests :
    ∀ gap ∈ [0, 2], ∀ waits ∈ [false, true],
      ∀ x ∈ [((0 : Port), Request.revoke raw0), (1, .release raw0), (0, .lockLine 0), (1, .closeSession)],
        ((asked (holding (gap, waits, mine .active 2)) x.1 x.2).ExclusionLaw ∧
          (asked (holding (gap, waits, mine .active 2)) x.1 x.2).BlockedLaw ∧
          (asked (holding (gap, waits, mine .active 2)) x.1 x.2).QueueLaw) ∧
        (asked (holding (gap, waits, mine .active 2)) x.1 x.2).Turn x.1 (frameOf x.2) x.2 ∧
        (asked (holding (gap, waits, mine .active 2)) x.1 x.2).OwnerLaw ∧
        ((asked (holding (gap, waits, mine .active 2)) x.1 x.2).port x.1).isOpen = true ∧
        raw0.gen = ((asked (holding (gap, waits, mine .active 2)) x.1 x.2).slot 0).gen ∧
        (asked (holding (gap, waits, mine .active 2)) x.1 x.2).permit 0 = some (mine .active 2) := by
  have all : ∀ gap ∈ [0, 2], ∀ waits ∈ [false, true],
      ∀ x ∈ [((0 : Port), Request.revoke raw0), (1, .release raw0), (0, .lockLine 0), (1, .closeSession)],
        (asked (holding (gap, waits, mine .active 2)) x.1 x.2).GroupLawsHold := by decide +kernel
  intro gap hg waits hw x hx
  have turn : ((asked (holding (gap, waits, mine .active 2)) x.1 x.2).resetLow = false ∧
      (asked (holding (gap, waits, mine .active 2)) x.1 x.2).nextRequest = some (x.1, frameOf x.2) ∧
      decodeRequest (frameOf x.2).code (frameOf x.2).fields = .ok x.2) := by
    revert gap waits x; decide +kernel
  refine ⟨State.groupLaws_of (all gap hg waits hw x hx), turn_of turn, ?_⟩
  revert gap waits x; decide +kernel

/-- GroupsTakeReleases: two claimants of the holder line. -/
theorem witness_GroupsTakeReleases_shared :
    ∀ s ∈ [put (busyWith 2 { lease .active 1 3 with lines := 1 }) 2 (mine .active 2)],
      (s.ExclusionLaw ∧ s.BlockedLaw ∧ s.QueueLaw) ∧ s.resetLow = false ∧ (s.line 0).claims = 2 ∧
        Due.permitTick (s.handle 0) ∈ s.due ∧ s.permit 0 = some { lease .active 1 3 with lines := 1 } := by
  intro s hs
  cases List.mem_singleton.mp hs
  exact ⟨State.groupLaws_of (by decide +kernel), by decide +kernel⟩

/-- The successors' clauses of PhasesEndAtTheirLastTick and ReleaseEndsNormally (State.HandsOn): a PULSE or TRAIN on its last tick,
and a successor that is passed by, that misses its trigger, that waits, that holds anew, or that makes its request. -/
theorem witness_HandsOn :
    ∀ q ∈ [mine .active 1, { train .active 1 2 with lines := 1 }],
      ∀ r ∈ [mine .idle 0, ended, mine .arming 0, mine .armed 0, { mine .armed 0 with wait := 0 }, mine .waiting 1, mine .active 1,
          train .resting 1 1, { mine .waiting 1 with retrigger := .restart }, { mine .active 1 with retrigger := .restart },
          { mine .active 1 with retrigger := .restart, wait := 0 }, { mine .waiting 1 with retrigger := .restart, wait := 0 }],
        ∀ s ∈ [put (ticking q) 1 { r with lines := 0x80, trigger := .chain (some (at5 0)) }],
          s.resetLow = false ∧ s.permit 0 = some q ∧ Due.permitTick (s.handle 0) ∈ s.due ∧ s.handle 0 = at5 0 ∧
            s.permit 1 = some { r with lines := 0x80, trigger := .chain (some (at5 0)) } ∧ r.owner ≠ none ∧ r.gate = none ∧
            s.quenched = false ∧ State.quenched { s with latch := true } = true ∧ s.groupedLine 0x80 = none := by decide +kernel

/-- State.HandsOn and State.Stays where an orphan ends (R61, R153): an orphan successor and an orphan that it gates are left without their
references. -/
theorem witness_HandsOn_orphans :
    ∀ s ∈ [put (put (ticking { mine .active 1 with owner := none }) 1
        { mine .waiting 1 with owner := none, lines := 2, trigger := .chain (some (at5 0)) }) 2
        { mine .waiting 1 with owner := none, lines := 4, gate := some (at5 0) }],
      s.OrphanLaw ∧ s.ReferenceLaw ∧ s.resetLow = false ∧ s.permit 0 = some { mine .active 1 with owner := none } ∧
        Due.permitTick (s.handle 0) ∈ s.due ∧ s.handle 0 = at5 0 ∧
        ([1, 2] : List SlotId).map (fun j => ((ran (.pulseHoldEnd 0) s).permit j).map fun r => (r.trigger, r.gate)) =
          [some (.chain none, none), some (.soft, none)] := by decide +kernel

/-- The clause of State.HandsOn for a grouped successor: ARMED with a wait count of 0, its line in the group that the end releases. -/
theorem witness_HandsOn_grouped :
    ∀ s ∈ [put (holding (2, false, mine .active 1)) 1
        { mine .armed 0 with wait := 0, lines := 2, trigger := .chain (some (at5 0)) }],
      (s.ExclusionLaw ∧ s.BlockedLaw ∧ s.QueueLaw) ∧ s.groupedLine 2 = some (0, 1) ∧ s.permit 0 = some (mine .active 1) ∧
        Due.permitTick (s.handle 0) ∈ s.due ∧ s.resetLow = false ∧ s.quenched = false := by
  intro s hs
  cases List.mem_singleton.mp hs
  exact ⟨State.groupLaws_of (by decide +kernel), by decide +kernel⟩

end Sys2Proof.Tests
end

section
/-! SUPPORT. The checks that refuse a request (R164): the handle checks of R3, and the checks of CREATE (R10). -/

namespace Sys2Proof.Machine

/-! ### Checks in order, and requests that they refuse (R163, R164) -/

theorem firstFailure_cons (passes : Bool) (st : Status) (rest : List (Bool × Status)) :
    firstFailure ((passes, st) :: rest) = if passes then firstFailure rest else some st := rfl

theorem firstFailure_of_passes {passes : Bool} {st : Status} {rest : List (Bool × Status)} (h : passes = true) :
    firstFailure ((passes, st) :: rest) = firstFailure rest := by rw [firstFailure_cons, if_pos h]

/-- The row of a request that is refused stores the status, and nothing else is written. -/
theorem State.execute_refused {s : State} {p : Port} {f : Frame} {r : Request} {st : Status}
    {run : Port → Request → Option Reply} (hl : s.LevelLaw) (ht : s.Turn p f r) (hr : run p r = some (refuse s st)) :
    s.execute run = s.answered p f st [] := by
  rw [State.execute_turn ht, hr]
  exact State.finish_eq hl

/-! ### The handle checks (R3) -/

/-- The checks of R3 in order. The slot that a handle names is looked up by its number. -/
def State.handleChecks (s : State) (p : Port) (revoke : Bool) (h : RawHandle) : List (Bool × Status) :=
  [(decide (revoke = true → p = 0), .notPermitted), ((s.port p).isOpen, .noSession), (decide (h.slot.toNat < 48), .badField),
    (allSlots.any fun i => h.slot.toNat = i.val && (s.permit i).isSome && (s.slot i).gen = h.gen, .staleHandle),
    (revoke || allSlots.any fun i => h.slot.toNat = i.val && (s.permit i).any (s.ownedBy p), .notOwner)]

/-- A test of the slot of a given number is the test of that slot. -/
theorem allSlots_any_number (i : SlotId) (test : SlotId → Bool) :
    (allSlots.any fun j => decide (i.val = j.val) && test j) = test i := by
  rw [Bool.eq_iff_iff, List.any_eq_true]
  constructor
  · rintro ⟨j, -, hj⟩
    obtain ⟨hij, hj⟩ := Bool.and_eq_true_iff.mp hj
    rwa [Fin.ext (of_decide_eq_true hij)]
  · exact fun hi => ⟨i, List.mem_finRange i, by simp [hi]⟩

theorem handleOf_eq_none {h : RawHandle} (hs : ¬ h.slot.toNat < 48) : handleOf h = none := by
  simp [handleOf, indexOf, hs]

/-- The permit that a handle names is the one in its slot, where the generations agree (R3). -/
theorem State.isSome_resolve (s : State) (h : Handle) :
    (s.resolve h).isSome = ((s.permit h.slot).isSome && decide ((s.slot h.slot).gen = h.gen)) := by
  by_cases hg : (s.slot h.slot).gen = h.gen <;> simp [State.resolve, hg]

theorem State.permit_of_resolve {s : State} {h : Handle} {q : Permit} (hr : s.resolve h = some q) : s.permit h.slot = some q := by
  unfold State.resolve at hr
  split at hr
  · exact hr
  · cases hr

/-- The handle checks fail with the status of the first of R3's checks that fails. -/
theorem State.checkHandle_error {s : State} {p : Port} {revoke : Bool} {h : RawHandle} {st : Status}
    (hf : firstFailure (s.handleChecks p revoke h) = some st) : s.checkHandle p revoke h = .error st := by
  unfold State.handleChecks at hf
  unfold State.checkHandle
  by_cases hrole : revoke = true → p = 0
  case neg => simp_all [firstFailure_cons]
  have hrole' : (revoke && decide (p ≠ 0)) = false := by simpa using hrole
  by_cases hopen : (s.port p).isOpen = true
  case neg => simp_all [firstFailure_cons]
  by_cases hslot : h.slot.toNat < 48
  case neg => simp_all [firstFailure_cons, handleOf_eq_none hslot]
  obtain ⟨i, hi⟩ : ∃ i : SlotId, h.slot.toNat = i.val := ⟨⟨h.slot.toNat, hslot⟩, rfl⟩
  simp only [firstFailure_cons, hopen, hi, i.isLt, Bool.and_assoc, allSlots_any_number,
    ← State.isSome_resolve s ⟨i, h.gen⟩] at hf
  simp only [hrole', hopen, handleOf_eq hi]
  cases hq : s.resolve ⟨i, h.gen⟩ with
  | none => simp_all
  | some q =>
    have hp : s.permit i = some q := State.permit_of_resolve hq
    cases hown : revoke || s.ownedBy p q <;> simp_all [firstFailure]

/-- A request that names a permit by a handle that fails the handle checks stores the status, and nothing else is written. -/
theorem State.execute_handle_refused {s : State} {p : Port} {f : Frame} {r : Request} {st : Status} {revoke : Bool}
    {h : RawHandle} {go : SlotId → Permit → Reply} {run : Port → Request → Option Reply} (hl : s.LevelLaw) (ht : s.Turn p f r)
    (hr : run p r = some (s.withPermit p revoke h go)) (hc : s.checkHandle p revoke h = .error st) :
    s.execute run = s.answered p f st [] :=
  State.execute_refused hl ht (by rw [hr, State.withPermit, hc])

/-! ### The checks of CREATE (R10, R14) -/

/-- The checks of R10 in order, each reference checked as R14 has it. -/
def State.createChecks (s : State) (p : Port) (c : CreateFields) : List (Bool × Status) :=
  [((s.port p).isOpen, .noSession), (allSlots.any fun i => (s.permit i).isNone, .tableFull),
    (decide ((s.port p).owned < (s.port p).quota), .quotaExceeded),
    ((createRecord { port := p, session := (s.port p).session } c).isSome, .badField),
    (decide (s.groupedCount c.lines ≤ 1), .groupConflict),
    (c.trigKind ≠ 2 || ((handleOf c.pred).bind s.resolve).isSome, .staleHandle),
    (c.trigKind ≠ 2 || ((handleOf c.pred).bind s.resolve).any (s.ownedBy p), .notOwner),
    (c.gatePresent ≠ 1 || ((handleOf c.gate).bind s.resolve).isSome, .staleHandle),
    (c.gatePresent ≠ 1 || ((handleOf c.gate).bind s.resolve).any (s.ownedBy p), .notOwner)]

/-- An EMPTY slot is found exactly when there is one (R15). -/
theorem State.isSome_emptySlot (s : State) : s.emptySlot.isSome = allSlots.any fun i => (s.permit i).isNone := by
  rw [State.emptySlot, List.isSome_find?]

/-- A trigger names a predecessor exactly when its kind is CHAIN, and then the one requested (R6, R12). -/
theorem pred_of_triggerOf {kind input : Byte} {pred : RawHandle} {t : Trigger} (ht : triggerOf kind input pred = some t) :
    (kind ≠ 2 ∧ t.pred = none) ∨ (kind = 2 ∧ t.pred = handleOf pred ∧ (handleOf pred).isSome) := by
  unfold triggerOf at ht
  split at ht
  · next hk => cases ht; exact .inl ⟨by rintro rfl; simp at hk, rfl⟩
  · next hk =>
    obtain ⟨ne, -, rfl⟩ := Option.map_eq_some_iff.mp ht
    exact .inl ⟨by rintro rfl; simp at hk, rfl⟩
  · next hk =>
    obtain ⟨h, hh, rfl⟩ := Option.map_eq_some_iff.mp ht
    exact .inr ⟨BitVec.eq_of_toNat_eq hk, hh.symm, by simp [hh]⟩
  · cases ht

/-- A permit has a gate exactly when one is present in the request, and then that one (R7, R12). -/
theorem gate_of_gateOf {present : Byte} {gate : RawHandle} {g : Option Handle} (hg : gateOf present gate = some g) :
    (present ≠ 1 ∧ g = none) ∨ (present = 1 ∧ g = handleOf gate ∧ (handleOf gate).isSome) := by
  unfold gateOf at hg
  split at hg
  · next hk => cases hg; exact .inl ⟨by rintro rfl; simp at hk, rfl⟩
  · next hk =>
    obtain ⟨h, hh, rfl⟩ := Option.map_eq_some_iff.mp hg
    exact .inr ⟨BitVec.eq_of_toNat_eq hk, hh.symm, by simp [hh]⟩
  · cases hg

/-- The record that CREATE makes has the lines, the trigger and the gate of the request (R15). -/
theorem createRecord_references {o : Owner} {c : CreateFields} {q : Permit} (hq : createRecord o c = some q) :
    q.lines = c.lines ∧ triggerOf c.trigKind c.trigInput c.pred = some q.trigger ∧ gateOf c.gatePresent c.gate = some q.gate := by
  simp only [createRecord, Option.bind_eq_bind, Option.bind_eq_some_iff] at hq
  obtain ⟨shape, -, timebase, -, trigger, htrig, gate, hgate, hold, -, mask, -, hq⟩ := hq
  split at hq
  · cases hq
  · cases hq; exact ⟨rfl, htrig, hgate⟩

/-- The two checks of a reference (R14), and those after it: a reference that is named fails them as State.referenceFailure has
it, and one that is not passes them. -/
theorem firstFailure_reference {s : State} {p : Port} {b n : Byte} {raw : RawHandle} {o : Option Handle}
    {rest : List (Bool × Status)} (ho : (b ≠ n ∧ o = none) ∨ (b = n ∧ o = handleOf raw ∧ (handleOf raw).isSome)) :
    firstFailure ((b ≠ n || ((handleOf raw).bind s.resolve).isSome, .staleHandle) ::
        (b ≠ n || ((handleOf raw).bind s.resolve).any (s.ownedBy p), .notOwner) :: rest) =
      (s.referenceFailure p o).or (firstFailure rest) := by
  obtain ⟨hb, rfl⟩ | ⟨rfl, rfl, hsome⟩ := ho
  · simp [firstFailure_cons, State.referenceFailure, hb]
  · obtain ⟨h, hh⟩ := Option.isSome_iff_exists.mp hsome
    cases hr : s.resolve h with
    | none => simp [firstFailure_cons, State.referenceFailure, hh, hr]
    | some q => cases hown : s.ownedBy p q <;> simp [firstFailure_cons, State.referenceFailure, hh, hr, hown]

/-- A CREATE that fails a check of R10 is refused with the status of the first that fails. -/
theorem State.runCreate_refused {s : State} {p : Port} {c : CreateFields} {st : Status}
    (hf : firstFailure (s.createChecks p c) = some st) : s.runCreate p c = refuse s st := by
  simp only [State.createChecks, ← State.isSome_emptySlot] at hf
  unfold State.runCreate
  by_cases hopen : (s.port p).isOpen = true
  case neg => simp_all [firstFailure_cons]
  cases hempty : s.emptySlot with
  | none => simp_all [firstFailure_cons]
  | some i =>
  by_cases hquota : (s.port p).owned < (s.port p).quota
  case neg => simp_all [firstFailure_cons]
  cases hrec : createRecord { port := p, session := (s.port p).session } c with
  | none => simp_all [firstFailure_cons]
  | some q =>
  obtain ⟨hlines, htrig, hgate⟩ := createRecord_references hrec
  by_cases hgroup : s.groupedCount c.lines ≤ 1
  case neg => simp_all [firstFailure_cons]
  rw [firstFailure_of_passes hopen, firstFailure_of_passes (by rw [hempty]; rfl), firstFailure_of_passes (decide_eq_true hquota),
    firstFailure_of_passes (by rw [hrec]; rfl), firstFailure_of_passes (decide_eq_true hgroup),
    firstFailure_reference (pred_of_triggerOf htrig), firstFailure_reference (gate_of_gateOf hgate)] at hf
  have hfree : ¬ (s.port p).quota ≤ (s.port p).owned := Nat.not_le.mpr hquota
  have hlone : ¬ 1 < s.groupedCount q.lines := by rw [hlines]; exact Nat.not_lt.mpr hgroup
  simp only [hopen, hfree, hlone]
  cases hpred : s.referenceFailure p q.trigger.pred with
  | some _ => simp_all
  | none => cases hg : s.referenceFailure p q.gate <;> simp_all [firstFailure]

end Sys2Proof.Machine

open Sys2Proof Sys2Proof.Machine

/-- Settles O14: the nine rows make the handle checks before anything else, REVOKE with the role check and without the owner
check. -/
theorem handleChecksInOrder : Obligations.HandleChecksInOrder := by
  unfold Obligations.HandleChecksInOrder
  intro s p f h r st hl ht hr hf
  have hc : s.checkHandle p (decide (r = .revoke h)) h = .error st :=
    State.checkHandle_error (by simpa only [State.handleChecks, decide_eq_true_eq] using hf)
  rcases hr with rfl | rfl | rfl | rfl | ⟨a, rfl, rfl⟩ | rfl | rfl | ⟨kinds, rfl⟩ | rfl
  all_goals exact congrArg _ (State.execute_handle_refused hl ht rfl (by simpa using hc))

/-- Settles O20: a failing check of R10 refuses the CREATE before its first write. -/
theorem createChecksInOrder : Obligations.CreateChecksInOrder := by
  unfold Obligations.CreateChecksInOrder
  intro s p f c st hl ht hf
  exact congrArg _ (State.execute_refused hl ht (congrArg some (State.runCreate_refused hf)))

end

section
/-! SUPPORT. The own checks of the requests that have passed the handle checks (R163, R164), as the rules state them: ARM (R23),
FIRE (R49), RELEASE and REVOKE (R41, R43), RETIRE (R19), AMEND (R74) and the ACK of a permit entry (R141). -/

namespace Sys2Proof.Machine

/-! ### Requests refused after the handle checks (R3, R164) -/

theorem State.checked_refused {s : State} {checks : List (Bool × Status)} {go : Reply} {st : Status}
    (hf : firstFailure checks = some st) : s.checked checks go = refuse s st := by rw [State.checked, hf]

/-- A request that needs a permit in service is refused for one that is not (R41, R43). -/
theorem State.checked_outOfService {s : State} {q : Permit} {go : Reply} (hq : q.state = .idle ∨ q.state = .ended) :
    s.checked [(q.state.inService, .wrongState)] go = refuse s .wrongState := by
  obtain h | h := hq <;> rw [h] <;> rfl

/-- A request that passes the handle checks passes them for the permit that its handle names (R3). -/
theorem State.Passes.checkHandle {s : State} {p : Port} {h : RawHandle} {i : SlotId} {q : Permit} (hp : s.Passes p h i q) :
    s.checkHandle p false h = .ok (i, q) := by
  obtain ⟨hopen, ⟨hslot, hgen, hpermit⟩, howner⟩ := hp
  exact State.checkHandle_owner hopen hslot hgen hpermit (decide_eq_true howner)

/-- A request that passes the handle checks and is refused afterwards stores the status, and nothing else is written. -/
theorem State.execute_permit_refused {s : State} {p : Port} {f : Frame} {r : Request} {st : Status} {revoke : Bool}
    {h : RawHandle} {i : SlotId} {q : Permit} {go : SlotId → Permit → Reply} {run : Port → Request → Option Reply}
    (hl : s.LevelLaw) (ht : s.Turn p f r) (hr : run p r = some (s.withPermit p revoke h go))
    (hc : s.checkHandle p revoke h = .ok (i, q)) (hg : go i q = refuse s st) : s.execute run = s.answered p f st [] :=
  State.execute_refused hl ht (by rw [hr, State.withPermit, hc, ← hg])

theorem State.Passes.execute_refused {s : State} {p : Port} {f : Frame} {r : Request} {st : Status} {h : RawHandle} {i : SlotId}
    {q : Permit} {go : SlotId → Permit → Reply} {run : Port → Request → Option Reply} (hp : s.Passes p h i q) (hl : s.LevelLaw)
    (ht : s.Turn p f r) (hr : run p r = some (s.withPermit p false h go)) (hg : go i q = refuse s st) :
    s.execute run = s.answered p f st [] :=
  State.execute_permit_refused hl ht hr hp.checkHandle hg

/-! ### The checks of the model as the rules state them -/

/-- A permit is in service outside IDLE and ENDED (R22). -/
theorem PState.inService_eq (x : PState) : x.inService = decide (x ≠ .idle ∧ x ≠ .ended) := by cases x <;> rfl

theorem PState.not_inService_eq (x : PState) : (!x.inService) = decide (x = .idle ∨ x = .ended) := by cases x <;> rfl

/-- No line of a permit is LOCKED (R23 check 3). -/
theorem State.not_anyLocked_eq (s : State) (q : Permit) :
    (!s.anyLocked q.lines) = decide (∀ l : LineId, q.names l = true → (s.line l).condition.isLocked = false) := by
  rw [Bool.eq_iff_iff]
  simp [State.anyLocked, Permit.names, allLines]

/-- No other permit of the session names the permit as its predecessor or its gate (R19). -/
theorem State.not_referenced_eq (s : State) (p : Port) (i : SlotId) :
    (!s.referenced p i) = decide (∀ j : SlotId, j ≠ i → ∀ r ∈ s.permit j, s.ownedBy p r = true →
      r.trigger ≠ .chain (some (s.handle i)) ∧ r.gate ≠ some (s.handle i)) := by
  rw [Bool.eq_iff_iff, decide_eq_true_iff, Bool.not_eq_true', State.referenced, List.any_eq_false]
  refine ⟨fun hnone j hj r hr hown => ?_, fun hall j _ => ?_⟩
  · simpa [hj, Option.mem_def.mp hr, hown] using hnone j (List.mem_finRange j)
  · cases hr : s.permit j with
    | none => simp
    | some r => simpa using fun hj hown => hall j hj r hr hown

/-- Every field that an AMEND names applies to the shape (R74 check 2). -/
theorem AmendFields.applies_eq (a : AmendFields) (shape : Shape) :
    AmendFields.applies a shape =
      decide ((a.fieldMask.getLsbD 2 = true ∨ a.fieldMask.getLsbD 3 = true → shape.isTrain = true) ∧
        (a.fieldMask.getLsbD 4 = true → shape.isLease = true)) := by
  rw [Bool.eq_iff_iff]
  simp [AmendFields.applies, AmendFields.names, imp_iff_not_or]

theorem isSome_inRange_word (w : Word) : (inRange 1 65535 w.toNat).isSome = decide (w ≠ 0) := by
  have hlt : w.toNat < 65536 := w.isLt
  have hzero : w = 0 ↔ w.toNat = 0 := BitVec.toNat_inj.symm
  rw [Bool.eq_iff_iff, inRange, Option.isSome_ite, decide_eq_true_iff, ne_eq, hzero]
  omega

theorem isSome_maskOf (b : Byte) : (maskOf b).isSome = decide (b.toNat < 16) := by
  rw [Bool.eq_iff_iff, maskOf, Option.isSome_ite, decide_eq_true_iff]

theorem isSome_choiceOf {α : Type} (x y : α) (b : Byte) : (choiceOf x y b).isSome = decide (b.toNat < 2) := by
  rcases hb : b.toNat with _ | _ | n <;> simp [choiceOf, hb]

/-- Every value that an AMEND names is in range (R74 check 4). -/
theorem AmendFields.inRanges_eq (a : AmendFields) :
    AmendFields.inRanges a =
      decide ((a.fieldMask.getLsbD 1 = true → a.hold ≠ 0) ∧ (a.fieldMask.getLsbD 2 = true → a.rest ≠ 0) ∧
        (a.fieldMask.getLsbD 6 = true → a.mask.toNat < 16) ∧ (a.fieldMask.getLsbD 7 = true → a.retrigger.toNat < 2) ∧
        (a.fieldMask.getLsbD 8 = true → a.orphan.toNat < 2)) := by
  rw [Bool.eq_iff_iff]
  simp [AmendFields.inRanges, AmendFields.names, isSome_inRange_word, isSome_maskOf, isSome_choiceOf, imp_iff_not_or, and_assoc]

/-- A set of kinds with a bit above the five is none (R141). -/
theorem kindsOf_eq_none {b : Byte} (hb : 32 ≤ b.toNat) : kindsOf b = none := if_neg (Nat.not_lt.mpr hb)

end Sys2Proof.Machine

open Sys2Proof Sys2Proof.Machine

/-- Settles O26: each row makes its checks before its first write, and they are those of its rule. -/
theorem permitRequestsCheckInOrder : Obligations.PermitRequestsCheckInOrder := by
  unfold Obligations.PermitRequestsCheckInOrder
  intro s p f h i q st hl
  simp only [← State.not_anyLocked_eq, ← PState.not_inService_eq, ← PState.inService_eq, ← State.not_referenced_eq,
    ← AmendFields.applies_eq, ← AmendFields.inRanges_eq]
  refine ⟨fun ht hp hf => ?arm, fun ht hp hf => ?fire, fun ht hp hq => ?release, fun ht hopen hn hq => ?revoke,
    fun ht hp hf => ?retire, fun a ha ht hp hf => ?amend, fun kinds ht hp hk => ?ack⟩
  case arm => exact congrArg Host.Outcome.next (hp.execute_refused hl ht rfl (State.checked_refused hf))
  case fire => exact congrArg Host.Outcome.next (hp.execute_refused hl ht rfl (State.checked_refused hf))
  case release => exact congrArg Host.Outcome.next (hp.execute_refused hl ht rfl (State.checked_outOfService hq))
  case revoke =>
    obtain ⟨hslot, hgen, hpermit⟩ := hn
    exact congrArg Host.Outcome.next (State.execute_permit_refused hl ht rfl
      (State.checkHandle_revoke hopen hslot hgen hpermit) (State.checked_outOfService hq))
  case retire => exact congrArg Host.Outcome.next (hp.execute_refused hl ht rfl (State.checked_refused hf))
  case amend =>
    subst ha
    exact congrArg Host.Outcome.next (hp.execute_refused hl ht rfl (State.checked_refused hf))
  case ack => exact congrArg Host.Outcome.next (hp.execute_refused hl ht rfl (by rw [kindsOf_eq_none hk]))

end

section
/-! SUPPORT. Activation requests by group state and queue (R29 to R31, R92): entry to ACTIVE, entry to BLOCKED, and what each answer
of the group leaves of the state. -/

namespace Sys2Proof.Machine

/-! ### Entry to ACTIVE and to BLOCKED (R30, R31) -/

/-- Entry to ACTIVE from another state than BLOCKED raises no notice (R30). -/
theorem State.enterActive_ofPermit {s : State} {i : SlotId} {q : Permit} (hq : s.permit i = some q) :
    s.enterActive i false = (s.setPermit i (q.enteringActive false)).addClaims q.lines := by
  simp [State.enterActive, hq]

theorem State.enterBlocked_ofPermit {s : State} {i : SlotId} {q : Permit} (hq : s.permit i = some q) (g : GroupId) :
    s.enterBlocked i g = ((s.setGroup g { s.group g with queue := (s.group g).queue ++ [s.handle i] }).setPermit i
      { q with state := .blocked, remaining := 0, blockedAge := 0 }).raise i .blocked := by
  simp only [State.enterBlocked, hq]

/-! ### The answer of a group (R92) -/

/-- A group lets a permit in at once exactly when its queue is empty and it is FREE or HELD by the permit's line (R92). -/
theorem Group.answersNow_iff {x : Group} {l : LineId} :
    x.answersNow l = true ↔ x.queue = [] ∧ (x.state = .free ∨ x.state = .held l) := by
  rw [Group.answersNow, Bool.and_eq_true, List.isEmpty_iff]
  cases x.state with
  | free => simp
  | held holder => simp
  | gap n => simp

/-- A permit whose lines are all outside the groups is let in at once (R29). -/
theorem State.activate_ungrouped {s : State} {i : SlotId} {q : Permit} (hq : s.permit i = some q)
    (hl : s.groupedLine q.lines = none) :
    s.activate i = (s.setPermit i (q.enteringActive false)).addClaims q.lines := by
  rw [← State.enterActive_ofPermit hq]
  simp only [State.activate, hq, hl]

/-- A group that lets a permit in is HELD by the permit's line (R92). -/
theorem State.activate_admitted {s : State} {i : SlotId} {q : Permit} {g : GroupId} {l : LineId} (hq : s.permit i = some q)
    (hl : s.groupedLine q.lines = some (g, l))
    (hnow : (s.group g).queue = [] ∧ ((s.group g).state = .free ∨ (s.group g).state = .held l)) :
    s.activate i =
      ((s.setGroup g { s.group g with state := .held l }).setPermit i (q.enteringActive false)).addClaims q.lines := by
  have hq' : (s.setGroup g { s.group g with state := .held l }).permit i = some q := hq
  rw [← State.enterActive_ofPermit hq']
  simp only [State.activate, hq, hl, Group.answersNow_iff.mpr hnow, if_true]

/-- A permit that its group does not let in is queued (R92). -/
theorem State.activate_queued {s : State} {i : SlotId} {q : Permit} {g : GroupId} {l : LineId} (hq : s.permit i = some q)
    (hl : s.groupedLine q.lines = some (g, l))
    (hlater : ¬((s.group g).queue = [] ∧ ((s.group g).state = .free ∨ (s.group g).state = .held l))) :
    s.activate i = s.enterBlocked i g := by
  simp only [State.activate, hq, hl, if_neg (mt Group.answersNow_iff.mp hlater)]

end Sys2Proof.Machine

open Sys2Proof Sys2Proof.Machine

/-- Settles O31: no grouped line, a group that lets the permit in, and one that queues it. -/
theorem activationIsAnswered : Obligations.ActivationIsAnswered := by
  unfold Obligations.ActivationIsAnswered
  intro s i q hq
  refine ⟨fun hl => ?ungrouped, fun g l hl => ⟨fun hnow => ?admitted, fun hlater => ?queued⟩⟩
  case ungrouped => exact State.activate_ungrouped hq hl
  case admitted => exact State.activate_admitted hq hl hnow
  case queued => rw [State.activate_queued hq hl hlater, State.enterBlocked_ofPermit hq]

end

section
/-! SUPPORT. The response frame as bytes (R157, R168): a word and its two bytes, a body and its CRC, the bits of the control byte, and
the bytes that SDO carries in a transaction (R156). -/

namespace Sys2Proof.Machine

/-! ### A body with its CRC (R157) -/

/-- A word is its two bytes, as R167 sends them, put together again. -/
@[simp] theorem word_lowByte_highByte (w : Word) : word (lowByte w) (highByte w) = w := by
  apply BitVec.eq_of_getLsbD_eq
  intro k hk
  rw [word, BitVec.getLsbD_append]
  split
  case isTrue hlow => simp [lowByte, hlow]
  case isFalse hhigh =>
    have hbyte : k - 8 < 8 := by omega
    have hbit : 8 + (k - 8) = k := by omega
    simp [highByte, hbyte, hbit]

theorem length_withCrc (body : List Byte) : (withCrc body).length = body.length + 2 := by simp [withCrc, wordBytes]

theorem take_length_withCrc (body : List Byte) : (withCrc body).take body.length = body := List.take_left

/-! ### The control byte (R168) -/

/-- With no sequence number, the free nibble alone (notes/assumptions/2.md). -/
theorem controlByte_none_getLsbD (free : Seq) (k : Nat) : (controlByte free none).getLsbD k = free.getLsbD k := by
  rw [controlByte, BitVec.getLsbD_setWidth, Bool.and_eq_right_iff_imp, decide_eq_true_eq]
  exact fun hk => Nat.lt_trans (BitVec.lt_of_getLsbD hk) (by decide)

/-- With a sequence number, its bits and the validity bit. -/
theorem controlByte_some_getLsbD (free q : Seq) (k : Nat) :
    (controlByte free (some q)).getLsbD k = (q.getLsbD k || decide (k = 4)) := by
  have hvalid : (0x10#8).getLsbD k = decide (k = 4) := by
    rw [show 0x10#8 = BitVec.twoPow 8 4 by decide, BitVec.getLsbD_twoPow, decide_eq_true (by decide), Bool.true_and]
    simp only [eq_comm]
  have hseq : (q.setWidth 8).getLsbD k = q.getLsbD k := controlByte_none_getLsbD q k
  rw [controlByte, BitVec.getLsbD_or, hseq, hvalid]

/-- Bits 3 to 0 hold the sequence number. -/
theorem controlByte_seq (free q : Seq) (k : Fin 4) : (controlByte free (some q)).getLsbD k = q.getLsbD k := by
  rw [controlByte_some_getLsbD, decide_eq_false (Nat.ne_of_lt k.isLt), Bool.or_false]

/-- Bit 4 is the validity bit. -/
theorem controlByte_valid (free : Seq) (seq : Option Seq) : (controlByte free seq).getLsbD 4 = seq.isSome := by
  cases seq with
  | none => rw [controlByte_none_getLsbD, BitVec.getLsbD_of_ge _ _ (by decide), Option.isSome_none]
  | some q => simp [controlByte_some_getLsbD]

/-- Bits 7 to 5 are clear, and there are none above them. -/
theorem controlByte_high (free : Seq) (seq : Option Seq) {k : Nat} (hk : 5 ≤ k) :
    (controlByte free seq).getLsbD k = false := by
  have hfour : 4 ≤ k := Nat.le_of_succ_le hk
  cases seq with
  | none => rw [controlByte_none_getLsbD, BitVec.getLsbD_of_ge _ _ hfour]
  | some q =>
    rw [controlByte_some_getLsbD, BitVec.getLsbD_of_ge _ _ hfour, decide_eq_false (Nat.ne_of_gt hk), Bool.or_false]

/-! ### The response frame (R168) -/

/-- The bytes of a response frame before its CRC. -/
def responseBody (free : Seq) (r : Response) (attention : Nat) : List Byte :=
  [BitVec.ofNat 8 (r.data.length + 7), controlByte free r.seq, r.code, statusByte r.status, BitVec.ofNat 8 attention] ++ r.data

theorem responseFrame_eq (free : Seq) (r : Response) (n : Nat) : responseFrame free r n = withCrc (responseBody free r n) := rfl

/-- The body, then the CRC as its two bytes. -/
theorem responseFrame_eq_append (free : Seq) (r : Response) (n : Nat) :
    responseFrame free r n =
      responseBody free r n ++ [lowByte (crc16 (responseBody free r n)), highByte (crc16 (responseBody free r n))] := by
  rw [responseFrame_eq, withCrc, wordBytes]

theorem length_responseBody (free : Seq) (r : Response) (n : Nat) : (responseBody free r n).length = r.data.length + 5 := rfl

theorem length_responseFrame (free : Seq) (r : Response) (n : Nat) : (responseFrame free r n).length = r.data.length + 7 := by
  rw [responseFrame_eq, length_withCrc, length_responseBody]

/-- The length byte counts the whole frame, where the data leave it in a byte. -/
theorem headD_responseFrame_toNat (free : Seq) {r : Response} (n : Nat) (hr : r.data.length ≤ 121) :
    ((responseFrame free r n).headD 0).toNat = r.data.length + 7 :=
  Nat.mod_eq_of_lt (by omega)

/-- The CRC is taken over the bytes before it. -/
theorem take_responseFrame (free : Seq) (r : Response) (n : Nat) :
    (responseFrame free r n).take (r.data.length + 5) = responseBody free r n := by
  rw [responseFrame_eq, ← length_responseBody free r n, take_length_withCrc]

/-! ### SDO in a transaction (R156) -/

theorem PortUnit.sdo_transaction {u : PortUnit} {x : ShiftOut} (hx : u.transaction = some x) (n : Nat) :
    u.sdo n = some ((responseFrame x.free x.response x.attention).getD n 0) := by
  rw [PortUnit.sdo, hx, Option.map_some]

/-- The frame comes first. -/
theorem PortUnit.sdo_frame {u : PortUnit} {x : ShiftOut} (hx : u.transaction = some x) {n : Nat}
    (hn : n < (responseFrame x.free x.response x.attention).length) :
    u.sdo n = (responseFrame x.free x.response x.attention)[n]? := by
  rw [PortUnit.sdo_transaction hx, List.getD_eq_getElem _ _ hn, List.getElem?_eq_getElem hn]

/-- Bytes of value 0 follow it. -/
theorem PortUnit.sdo_padding {u : PortUnit} {x : ShiftOut} (hx : u.transaction = some x) {n : Nat}
    (hn : (responseFrame x.free x.response x.attention).length ≤ n) : u.sdo n = some 0 := by
  rw [PortUnit.sdo_transaction hx, List.getD_eq_default _ _ hn]

end Sys2Proof.Machine

open Sys2Proof Sys2Proof.Machine

/-- Settles O11: the frame is its body and the CRC of that body, and SDO reads the frame with 0 beyond its end. -/
theorem responseFrameLayout : Obligations.ResponseFrameLayout := by
  unfold Obligations.ResponseFrameLayout
  refine ⟨fun free r n hr _ => ?frame, fun st => ?status, rfl, fun _ => rfl,
    fun u x n hx => ⟨PortUnit.sdo_frame hx, PortUnit.sdo_padding hx⟩⟩
  case frame =>
    refine ⟨lowByte (crc16 (responseBody free r n)), highByte (crc16 (responseBody free r n)),
      responseFrame_eq_append free r n, length_responseFrame free r n, ?_⟩
    rw [headD_responseFrame_toNat free n hr, length_responseFrame, take_responseFrame, word_lowByte_highByte]
    refine ⟨by omega, by omega, rfl, rfl, fun q hq k => ?_, controlByte_valid free r.seq, fun k => controlByte_high free r.seq⟩
    rw [Option.mem_def.mp hq, controlByte_seq]
  case status => cases st <;> rfl

end

section
/-! SUPPORT. The smallest changes that a happening makes at the permits, and the laws that every one of them keeps: a record written
in its run, a notice raised, an end, a retirement, and what touches no permit at all. -/

namespace Sys2Proof.Machine

set_option Elab.async false

/-! ### Reading a state through its parts -/

theorem State.slot_of_slots {s t : State} (h : t.slots = s.slots) (i : SlotId) : t.slot i = s.slot i := by
  simp only [State.slot, h]

theorem State.permit_of_slots {s t : State} (h : t.slots = s.slots) (i : SlotId) : t.permit i = s.permit i := by
  simp only [State.permit, State.slot_of_slots h]

theorem State.handle_of_slots {s t : State} (h : t.slots = s.slots) (i : SlotId) : t.handle i = s.handle i := by
  simp only [State.handle, State.slot_of_slots h]

theorem State.resolve_of_slots {s t : State} (h : t.slots = s.slots) (hd : Handle) : t.resolve hd = s.resolve hd := by
  simp only [State.resolve, State.slot_of_slots h, State.permit_of_slots h]

theorem State.port_of_ports {s t : State} (h : t.ports = s.ports) (p : Port) : t.port p = s.port p := by
  simp only [State.port, h]

/-- A handle names a permit exactly when it is the current handle of a slot that holds it (R3). -/
theorem State.resolve_eq_some {s : State} {h : Handle} {q : Permit} :
    s.resolve h = some q ↔ h = s.handle h.slot ∧ s.permit h.slot = some q := by
  constructor
  · exact fun hr => ⟨State.handle_of_resolve hr, State.permit_of_resolve hr⟩
  · rintro ⟨hh, hq⟩
    have hgen : (s.slot h.slot).gen = h.gen := (congrArg Handle.gen hh).symm
    rw [State.resolve, if_pos hgen, hq]

@[simp] theorem State.slot_handle (s : State) (i : SlotId) : (s.handle i).slot = i := rfl

@[simp] theorem State.resolve_handle (s : State) (i : SlotId) : s.resolve (s.handle i) = s.permit i := by
  simp [State.resolve, State.handle]

/-- A record written back to its slot leaves the state as it was. -/
theorem State.setPermit_self {s : State} {i : SlotId} {p : Permit} (hp : s.permit i = some p) : s.setPermit i p = s := by
  refine State.eq_of_parts (fun j => ?_) (fun _ => rfl) (fun _ => rfl) (fun _ => rfl) (fun _ => rfl) (fun _ => rfl) rfl rfl rfl rfl
    rfl rfl rfl
  rw [State.slot_setPermit]
  split
  · next hij =>
    subst hij
    simp only [State.permit] at hp
    cases hs : s.slot i
    simp_all
  · rfl

theorem State.setPermit_setPermit (s : State) (i : SlotId) (p p' : Permit) :
    (s.setPermit i p).setPermit i p' = s.setPermit i p' := by
  refine State.eq_of_parts (fun j => ?_) (fun _ => rfl) (fun _ => rfl) (fun _ => rfl) (fun _ => rfl) (fun _ => rfl) rfl rfl rfl rfl
    rfl rfl rfl
  simp only [State.slot_setPermit]
  split <;> rfl

/-! ### Records in their run -/

/-- The record as happenings of its run rewrite it: all but the state, the counters and the end reason as it was. -/
def Permit.Reruns (p p' : Permit) : Prop :=
  p' = { p with
    state := p'.state, remaining := p'.remaining, cycles := p'.cycles, renewalAge := p'.renewalAge
    blockedAge := p'.blockedAge, endReason := p'.endReason }

theorem Permit.Reruns.refl (p : Permit) : p.Reruns p := rfl

theorem Permit.Reruns.trans {p p' p'' : Permit} (h : p.Reruns p') (k : p'.Reruns p'') : p.Reruns p'' := by
  unfold Permit.Reruns at h k ⊢
  rw [k, h]

section
variable {p p' : Permit} (h : p.Reruns p')
include h

theorem Permit.Reruns.owner : p'.owner = p.owner := by rw [h]
theorem Permit.Reruns.shape : p'.shape = p.shape := by rw [h]
theorem Permit.Reruns.lines : p'.lines = p.lines := by rw [h]
theorem Permit.Reruns.timebase : p'.timebase = p.timebase := by rw [h]
theorem Permit.Reruns.trigger : p'.trigger = p.trigger := by rw [h]
theorem Permit.Reruns.gate : p'.gate = p.gate := by rw [h]
theorem Permit.Reruns.pending : p'.pending = p.pending := by rw [h]

end

/-- The record as an entry to ENDED writes it, less the notice (R38). -/
def Permit.stoppedBy (p : Permit) (r : EndReason) : Permit :=
  { p with state := .ended, remaining := 0, endReason := some r }

theorem Permit.reruns_stoppedBy (p : Permit) (r : EndReason) : p.Reruns (p.stoppedBy r) := rfl

/-! ### The smallest changes -/

/-- How far a happening goes: permits in their run, permits that leave ACTIVE or BLOCKED for another state in service, permits that
end, and a teardown or CLEAR_TABLE, which take permits off their owners. Each goes as far as those before it. -/
inductive Scope where
  | run
  | stop
  | ends
  | table
  deriving DecidableEq

/-- The happening may stop permits. -/
def Scope.stops : Scope → Bool
  | .run => false
  | .stop => true
  | .ends => true
  | .table => true

/-- The happening may end permits. -/
def Scope.endsPermits : Scope → Bool
  | .run => false
  | .stop => false
  | .ends => true
  | .table => true

/-- The happening may take permits off their owners. -/
def Scope.clears : Scope → Bool
  | .run => false
  | .stop => false
  | .ends => false
  | .table => true

/-- One smallest change of a happening at the permits. -/
inductive State.Beat (k : Scope) : State → State → Prop
  /-- Claims, groups and the draw of an open order: no slot, no port, no level, nothing due. -/
  | aside {s t : State} (moves : s.Moves t)
      (levels : ∀ l : LineId, (t.line l).asserted = (s.line l).asserted ∧ (t.line l).mismatch = (s.line l).mismatch)
      (slots : t.slots = s.slots) (ports : t.ports = s.ports) (due : t.due = s.due) : State.Beat k s t
  /-- A permit in service stays so. -/
  | rerun {s : State} {i : SlotId} {p p' : Permit} (here : s.permit i = some p) (runs : p.Reruns p')
      (ranges : p.inRanges = true → p'.inRanges = true) (before : p.state.inService = true) (after : p'.state.inService = true)
      (started : p'.state.running = true → p.state.running = true ∨ s.quenched = false)
      (goesOn : p.state.running = true → p'.state.running = true) : State.Beat k s (s.setPermit i p')
  | raise {s : State} (i : SlotId) (n : Notice) : State.Beat k s (s.raise i n)
  /-- A permit is ENDED, and what is due at it passes it by (R38, R47). -/
  | ends {s : State} {i : SlotId} {p p' : Permit} (scope : k.endsPermits = true) (here : s.permit i = some p) (runs : p.Reruns p')
      (ended : p'.state = .ended) (ranges : p.inRanges = true → p'.inRanges = true) :
      State.Beat k s ((s.setPermit i p').withdraw (Due.isFor (s.handle i)))
  /-- An orphan is retired (R153); in a teardown or a CLEAR_TABLE any permit (R2). -/
  | retire {s : State} {i : SlotId} {p : Permit} (here : s.permit i = some p) (orphan : k.clears = true ∨ p.owner = none) :
      State.Beat k s (s.retire i)
  /-- Running permits become orphans (R150). -/
  | orphans {s : State} {made : SlotId → Bool} (scope : k.clears = true)
      (running : ∀ (i : SlotId) (p : Permit), made i = true → s.permit i = some p → p.state.running = true) :
      State.Beat k s (s.mapSlots fun i x => if made i then { x with permit := x.permit.map Permit.orphaned } else x)
  /-- A session is closed (R150). -/
  | closes {s : State} (scope : k.clears = true) (p : Port) :
      State.Beat k s (s.setPort p { s.port p with isOpen := false, owned := 0, attention := [] })

/-- What a happening leaves of a record: the permit's lines, timebase and shape, no new owner, in service only what was so, running
only what was so or started outside quench, and in its ranges what was so. -/
structure Permit.Evolves (quenched : Bool) (p p' : Permit) : Prop where
  lines : p'.lines = p.lines
  timebase : p'.timebase = p.timebase
  owner : ∀ o, p'.owner = some o → p.owner = some o
  inService : p'.state.inService = true → p.state.inService = true
  running : p'.state.running = true → p.state.running = true ∨ quenched = false
  ranges : p.inRanges = true → p'.inRanges = true

theorem Permit.Evolves.refl (b : Bool) (p : Permit) : p.Evolves b p :=
  ⟨rfl, rfl, fun _ h => h, fun h => h, .inl, fun h => h⟩

theorem Permit.evolves_raised (b : Bool) (p : Permit) (k : Notice) : p.Evolves b (p.raised k) := by
  unfold Permit.raised
  split
  · exact ⟨rfl, rfl, fun _ h => h, fun h => h, .inl, fun h => h⟩
  · exact .refl b p

theorem Permit.evolves_dropReference (b : Bool) (p : Permit) (h : Handle) : p.Evolves b (p.dropReference h) := by
  unfold Permit.dropReference
  split
  · exact .refl b p
  · exact ⟨rfl, rfl, fun _ ho => ho, fun hs => hs, .inl, fun hr => hr⟩

theorem Permit.evolves_orphaned (b : Bool) (p : Permit) : p.Evolves b p.orphaned :=
  ⟨rfl, rfl, fun _ ho => (nomatch ho), fun h => h, .inl, fun h => h⟩

theorem PState.inService_of_running {x : PState} (h : x.running = true) : x.inService = true := by
  cases x <;> simp_all [PState.running, PState.inService]

/-! ### The permits after a notice and after a retirement -/

/-- A raise leaves every permit, its own with the kind raised. -/
theorem State.permit_raise_any (s : State) (i j : SlotId) (k : Notice) :
    (s.raise i k).permit j = if i = j then (s.permit j).map (Permit.raised · k) else s.permit j := by
  split
  · next h =>
    subst h
    cases hp : s.permit i with
    | none => simp [State.raise, hp]
    | some p => rw [State.permit_raise k hp, Option.map_some]
  · next h => simp only [State.permit, State.slot_raise k h]

@[simp] theorem State.handle_raise (s : State) (i j : SlotId) (k : Notice) : (s.raise i k).handle j = s.handle j := by
  simp only [State.handle, State.gen_raise]

@[simp] theorem State.slot_leaveOwner (s : State) (h : Handle) (p : Permit) (j : SlotId) :
    (s.leaveOwner h p).slot j = s.slot j := by
  unfold State.leaveOwner; split <;> rfl

/-- A retirement empties its slot, and leaves every other permit but for an orphan's references (R2). -/
theorem State.slot_retire_any {s : State} {i : SlotId} {p : Permit} (hp : s.permit i = some p) (j : SlotId) :
    (s.retire i).slot j = if i = j then { gen := (s.slot i).gen + 1, permit := none }
      else { s.slot j with permit := (s.permit j).map (Permit.dropReference (s.handle i)) } := by
  split
  · next h => subst h; exact State.slot_retire_self hp
  · next h =>
    simp only [State.retire, hp, State.slot_withdraw, State.slot_setSlot, if_neg h, State.slot_mapSlots, State.slot_leaveOwner]
    rfl

theorem State.permit_retire_any {s : State} {i : SlotId} {p : Permit} (hp : s.permit i = some p) (j : SlotId) :
    (s.retire i).permit j = if i = j then none else (s.permit j).map (Permit.dropReference (s.handle i)) := by
  rw [State.permit, State.slot_retire_any hp]
  split <;> rfl

theorem State.gen_retire_of_ne {s : State} {i j : SlotId} (h : i ≠ j) : ((s.retire i).slot j).gen = (s.slot j).gen := by
  cases hp : s.permit i with
  | none => simp [State.retire, hp]
  | some p => rw [State.slot_retire_any hp, if_neg h]

theorem State.due_retire {s : State} {i : SlotId} {p : Permit} (hp : s.permit i = some p) :
    (s.retire i).due = s.due.filter fun d => !d.isFor (s.handle i) := by
  have hdue : ∀ h q, (s.leaveOwner h q).due = s.due := by intro h q; unfold State.leaveOwner; split <;> rfl
  simp [State.retire, hp, hdue]

/-- The ports after a retirement (R2): the owner's owned count and list. -/
theorem State.port_retire {s : State} {i : SlotId} {p : Permit} (hp : s.permit i = some p) (x : Port) :
    (s.retire i).port x = if p.owner.map Owner.port = some x then
      { s.port x with attention := (s.port x).attention.filter (· ≠ .permit (s.handle i)), owned := (s.port x).owned - 1 }
      else s.port x := by
  have hport : ∀ (t : State) f u h, (((t.mapSlots f).setSlot i u).withdraw h).port x = t.port x := by
    intro t f u h; simp
  simp only [State.retire, hp, hport, State.leaveOwner]
  cases ho : p.owner with
  | none => simp
  | some o =>
    simp only [State.port_setPort, Option.map_some, Option.some.injEq]
    split
    · next h => subst h; rfl
    · rfl

/-! ### What the smallest changes keep -/

theorem State.Beat.moves {k : Scope} {s t : State} (h : State.Beat k s t) (hk : k.clears = false) : s.Moves t := by
  cases h with
  | aside moves => exact moves
  | rerun => exact s.moves_setPermit ..
  | raise => exact s.moves_raise ..
  | ends => exact (s.moves_setPermit ..).trans (State.moves_withdraw ..)
  | retire => exact s.moves_retire ..
  | orphans scope => exact absurd scope (by simp [hk])
  | closes scope => exact absurd scope (by simp [hk])

/-- What no smallest change touches, not even in a teardown: Moves, but for a session that may be closed. -/
structure State.Stands (s t : State) : Prop where
  timebases : t.timebases = s.timebases
  inputs : t.inputs = s.inputs
  quenched : t.quenched = s.quenched
  resetLow : t.resetLow = s.resetLow
  pending : t.pending = s.pending
  line : ∀ l : LineId, t.line l =
    { s.line l with claims := (t.line l).claims, asserted := (t.line l).asserted, mismatch := (t.line l).mismatch }
  group : ∀ g : GroupId, t.group g = { s.group g with state := (t.group g).state, queue := (t.group g).queue }
  port : ∀ p : Port, (t.port p).quota = (s.port p).quota ∧ (t.port p).session = (s.port p).session

theorem State.Moves.stands {s t : State} (h : s.Moves t) : s.Stands t where
  timebases := h.timebases
  inputs := h.inputs
  quenched := h.quenched
  resetLow := h.resetLow
  pending := h.pending
  line := h.line
  group := h.group
  port p := by rw [h.port p]; exact ⟨rfl, rfl⟩

theorem State.Beat.stands {k : Scope} {s t : State} (h : State.Beat k s t) : s.Stands t := by
  cases h with
  | aside moves => exact moves.stands
  | rerun => exact (s.moves_setPermit ..).stands
  | raise => exact (s.moves_raise ..).stands
  | ends => exact ((s.moves_setPermit ..).trans (State.moves_withdraw ..)).stands
  | retire => exact (s.moves_retire ..).stands
  | orphans => exact (s.moves_mapSlots ..).stands
  | closes _ p =>
    refine ⟨rfl, rfl, rfl, rfl, rfl, fun _ => rfl, fun _ => rfl, fun p' => ?_⟩
    rw [State.port_setPort]
    split
    · next h => subst h; exact ⟨rfl, rfl⟩
    · exact ⟨rfl, rfl⟩

/-- Every permit after a smallest change is one that stood in its slot before. -/
theorem State.Beat.evolves {k : Scope} {s t : State} (h : State.Beat k s t) {j : SlotId} {p' : Permit} (hp : t.permit j = some p') :
    ∃ p, s.permit j = some p ∧ p.Evolves s.quenched p' := by
  cases h with
  | aside _ _ slots => exact ⟨p', by rw [← hp, State.permit_of_slots slots], .refl _ _⟩
  | @rerun i p q here runs ranges before after started =>
    rw [State.permit_setPermit] at hp
    split at hp
    · next hij =>
      cases hp; subst hij
      exact ⟨p, here, ⟨runs.lines, runs.timebase, fun o ho => runs.owner ▸ ho, fun _ => before, started, ranges⟩⟩
    · exact ⟨p', hp, .refl _ _⟩
  | raise i k =>
    rw [State.permit_raise_any] at hp
    split at hp
    · obtain ⟨p, hp, rfl⟩ := Option.map_eq_some_iff.mp hp
      exact ⟨p, by assumption, p.evolves_raised _ k⟩
    · exact ⟨p', hp, .refl _ _⟩
  | @ends i p q _ here runs ended ranges =>
    rw [State.permit_withdraw, State.permit_setPermit] at hp
    split at hp
    · next hij =>
      cases hp; subst hij
      refine ⟨p, here, ⟨runs.lines, runs.timebase, fun o ho => runs.owner ▸ ho, ?_, ?_, ranges⟩⟩ <;>
        (intro h; rw [ended] at h; cases h)
    · exact ⟨p', hp, .refl _ _⟩
  | @retire i p here =>
    rw [State.permit_retire_any here] at hp
    split at hp
    · cases hp
    · obtain ⟨q, hq, rfl⟩ := Option.map_eq_some_iff.mp hp
      exact ⟨q, hq, q.evolves_dropReference _ _⟩
  | @orphans made _ running =>
    rw [State.permit_mapSlots] at hp
    split at hp
    · obtain ⟨q, hq, rfl⟩ := Option.map_eq_some_iff.mp hp
      exact ⟨q, hq, q.evolves_orphaned _⟩
    · exact ⟨p', hp, .refl _ _⟩
  | closes => exact ⟨p', hp, .refl _ _⟩

end Sys2Proof.Machine
end

section
/-! SUPPORT. The laws of the part that every smallest change keeps: those of locks, quench, references, owners, lists, ranges and of
what is due. -/

namespace Sys2Proof.Machine

set_option Elab.async false

/-! ### Laws at one permit -/

/-- Every permit after the happening is one that stood in its slot before, as Permit.Evolves has it. -/
abbrev State.PermitsEvolve (s t : State) : Prop :=
  ∀ (j : SlotId) (p' : Permit), t.permit j = some p' → ∃ p, s.permit j = some p ∧ p.Evolves s.quenched p'

theorem State.LockLaw.of_evolve {s t : State} (h : s.LockLaw) (he : s.PermitsEvolve t)
    (hl : ∀ l, (t.line l).condition = (s.line l).condition) : t.LockLaw := by
  intro j p' hp' hs l hn
  obtain ⟨p, hp, ev⟩ := he j p' hp'
  rw [hl]
  exact h j p hp (ev.inService hs) l (by rwa [Permit.names, ev.lines] at hn)

theorem State.QuenchLaw.of_evolve {s t : State} (h : s.QuenchLaw) (he : s.PermitsEvolve t) (hq : t.quenched = s.quenched)
    (hr : t.resetLow = s.resetLow) : t.QuenchLaw := by
  obtain ⟨hrun, hnone⟩ := h
  refine ⟨fun hq' j p' hp' => ?_, fun hr' j => ?_⟩
  · obtain ⟨p, hp, ev⟩ := he j p' hp'
    rw [hq] at hq'
    cases hx : p'.state.running with
    | false => rfl
    | true =>
      rcases ev.running hx with h1 | h1
      · rw [hrun hq' j p hp] at h1; cases h1
      · rw [hq'] at h1; cases h1
  · cases hp' : t.permit j with
    | none => rfl
    | some p' =>
      obtain ⟨p, hp, -⟩ := he j p' hp'
      rw [hnone (hr ▸ hr') j] at hp
      cases hp

theorem State.RecordLaw.of_evolve {s t : State} (h : s.RecordLaw) (he : s.PermitsEvolve t) : t.RecordLaw := by
  intro j p' hp'
  obtain ⟨p, hp, ev⟩ := he j p' hp'
  exact ev.ranges (h j p hp)

/-- The timebases' law at the permits, the timebases as they were. -/
theorem State.TimebaseLaw.of_evolve {s t : State} (h : s.TimebaseLaw) (he : s.PermitsEvolve t)
    (ht : ∀ k, t.timebase k = s.timebase k) : t.TimebaseLaw := by
  obtain ⟨hranges, hruns⟩ := h
  refine ⟨fun k => ?_, fun j p' hp' hs => ?_⟩
  · simp only [ht]; exact hranges k
  · obtain ⟨p, hp, ev⟩ := he j p' hp'
    rw [ev.timebase, ht]
    exact hruns j p hp (ev.inService hs)

/-! ### Groups by their members -/

section
variable {s t : State} (hm : ∀ g : GroupId, (t.group g).members = (s.group g).members)
include hm

theorem State.groupOf_of_members (l : LineId) : t.groupOf l = s.groupOf l := by
  simp only [State.groupOf, Group.has, hm]

theorem State.groupedCount_of_members (ls : LineSet) : t.groupedCount ls = s.groupedCount ls := by
  simp only [State.groupedCount, State.groupOf_of_members hm]

theorem State.groupedLine_of_members (ls : LineSet) : t.groupedLine ls = s.groupedLine ls := by
  simp only [State.groupedLine, State.groupOf_of_members hm]

theorem State.memberLine_of_members (g : GroupId) (p : Permit) : t.memberLine g p = s.memberLine g p := by
  simp only [State.memberLine, Group.has, hm]

theorem State.MembersLaw.of_members (h : s.MembersLaw) : t.MembersLaw := by
  intro g g' l; simp only [Group.has, hm]; exact h g g' l

theorem State.GroupedLaw.of_evolve (h : s.GroupedLaw) (he : s.PermitsEvolve t) : t.GroupedLaw := by
  intro j p' hp' hs
  obtain ⟨p, hp, ev⟩ := he j p' hp'
  rw [State.groupedCount_of_members hm, ev.lines]
  exact h j p hp (ev.inService hs)

end

theorem State.Stands.members {s t : State} (h : s.Stands t) (g : GroupId) : (t.group g).members = (s.group g).members := by
  rw [h.group g]

theorem State.Stands.condition {s t : State} (h : s.Stands t) (l : LineId) : (t.line l).condition = (s.line l).condition := by
  rw [h.line l]

theorem State.Stands.timebase {s t : State} (h : s.Stands t) (k : TimebaseId) : t.timebase k = s.timebase k := by
  simp only [State.timebase, h.timebases]

theorem State.Stands.input {s t : State} (h : s.Stands t) (n : InputId) : t.input n = s.input n := by
  simp only [State.input, h.inputs]

theorem State.Stands.refl (s : State) : s.Stands s := (State.Moves.refl s).stands

theorem State.Stands.trans {s t u : State} (h : s.Stands t) (k : t.Stands u) : s.Stands u where
  timebases := k.timebases.trans h.timebases
  inputs := k.inputs.trans h.inputs
  quenched := k.quenched.trans h.quenched
  resetLow := k.resetLow.trans h.resetLow
  pending := k.pending.trans h.pending
  line l := by rw [k.line l, h.line l]
  group g := by rw [k.group g, h.group g]
  port p := ⟨(k.port p).1.trans (h.port p).1, (k.port p).2.trans (h.port p).2⟩

theorem Permit.Evolves.trans {b : Bool} {p p' p'' : Permit} (h : p.Evolves b p') (k : p'.Evolves b p'') : p.Evolves b p'' where
  lines := k.lines.trans h.lines
  timebase := k.timebase.trans h.timebase
  owner o ho := h.owner o (k.owner o ho)
  inService hs := h.inService (k.inService hs)
  running hr := (k.running hr).elim h.running .inr
  ranges hr := k.ranges (h.ranges hr)

/-! ### Owners, owned counts, quotas -/

/-- The owner of the permit in a slot. -/
def State.ownerAt (s : State) (i : SlotId) : Option Owner := (s.permit i).bind Permit.owner

theorem State.ownerAt_of_permit {s : State} {i : SlotId} {p : Permit} (hp : s.permit i = some p) : s.ownerAt i = p.owner := by
  rw [State.ownerAt, hp, Option.bind_some]

theorem State.slotsWith_eq (s : State) (test : Permit → Bool) :
    s.slotsWith test = allSlots.filter fun i => (s.permit i).any test := by
  unfold State.slotsWith
  congr 1; funext i
  cases s.permit i <;> rfl

theorem State.mem_slotsWith {s : State} {test : Permit → Bool} {i : SlotId} :
    i ∈ s.slotsWith test ↔ ∃ p, s.permit i = some p ∧ test p = true := by
  rw [State.slotsWith_eq, List.mem_filter, Option.any_eq_true]
  exact and_iff_right (List.mem_finRange i)

theorem State.slotsWith_ownedBy (s : State) (p : Port) :
    s.slotsWith (s.ownedBy p) = allSlots.filter fun i => s.ownerAt i = some { port := p, session := (s.port p).session } := by
  rw [State.slotsWith_eq]
  congr 1; funext i
  cases hp : s.permit i <;> simp [State.ownerAt, State.ownedBy, hp]

theorem State.ownerLaw_iff {s : State} : s.OwnerLaw ↔
    ∀ i o, s.ownerAt i = some o → (s.port o.port).isOpen = true ∧ (s.port o.port).session = o.session := by
  constructor
  · intro h i o ho
    obtain ⟨q, hq, ho⟩ := Option.bind_eq_some_iff.mp ho
    exact h i q hq o ho
  · intro h i q hq o ho
    exact h i o (by rw [State.ownerAt_of_permit hq]; exact ho)

theorem State.OwnerLaw.of_owners {s t : State} (h : s.OwnerLaw) (ho : ∀ i, t.ownerAt i = s.ownerAt i)
    (hp : ∀ p, (t.port p).isOpen = (s.port p).isOpen ∧ (t.port p).session = (s.port p).session) : t.OwnerLaw := by
  rw [State.ownerLaw_iff] at h ⊢
  intro i o hi
  rw [(hp o.port).1, (hp o.port).2]
  exact h i o (ho i ▸ hi)

theorem State.CountLaw.of_owners {s t : State} (h : s.CountLaw) (ho : ∀ i, t.ownerAt i = s.ownerAt i)
    (hp : ∀ p, (t.port p).owned = (s.port p).owned ∧ (t.port p).session = (s.port p).session) : t.CountLaw := by
  intro p
  simp only [State.slotsWith_ownedBy, ho, (hp p).1, (hp p).2]
  simpa only [State.slotsWith_ownedBy] using h p

@[simp] theorem Permit.owner_dropReference (p : Permit) (h : Handle) : (p.dropReference h).owner = p.owner := by
  unfold Permit.dropReference
  cases ho : p.owner <;> simp [ho]

@[simp] theorem Permit.owner_raised (p : Permit) (n : Notice) : (p.raised n).owner = p.owner := by
  unfold Permit.raised; split <;> rfl

@[simp] theorem Permit.trigger_raised (p : Permit) (n : Notice) : (p.raised n).trigger = p.trigger := by
  unfold Permit.raised; split <;> rfl

@[simp] theorem Permit.gate_raised (p : Permit) (n : Notice) : (p.raised n).gate = p.gate := by
  unfold Permit.raised; split <;> rfl

theorem Option.bind_map_owner (o : Option Permit) {f : Permit → Permit} (hf : ∀ p, (f p).owner = p.owner) :
    (o.map f).bind Permit.owner = o.bind Permit.owner := by
  cases o <;> simp [hf]

/-- No smallest change but those of a teardown changes an owner. -/
theorem State.Beat.ownerAt {k : Scope} {s t : State} (h : State.Beat k s t) (hk : k.clears = false) (j : SlotId) :
    t.ownerAt j = s.ownerAt j := by
  unfold State.ownerAt
  cases h with
  | aside _ _ slots => rw [State.permit_of_slots slots]
  | @rerun i p q here runs =>
    rw [State.permit_setPermit]
    split
    · next hij => subst hij; rw [here, Option.bind_some, Option.bind_some, runs.owner]
    · rfl
  | raise i n =>
    rw [State.permit_raise_any]
    split
    · exact Option.bind_map_owner _ fun p => p.owner_raised n
    · rfl
  | @ends i p q _ here runs =>
    rw [State.permit_withdraw, State.permit_setPermit]
    split
    · next hij => subst hij; rw [here, Option.bind_some, Option.bind_some, runs.owner]
    · rfl
  | @retire i p here orphan =>
    rw [State.permit_retire_any here]
    split
    · next hij => subst hij; rw [here, Option.bind_some, orphan.resolve_left (by simp [hk])]; rfl
    · exact Option.bind_map_owner _ fun p => p.owner_dropReference _
  | orphans scope => simp [hk] at scope
  | closes scope => simp [hk] at scope

/-- No smallest change but those of a teardown changes an owned count. -/
theorem State.owned_raise (s : State) (i : SlotId) (n : Notice) (p : Port) : ((s.raise i n).port p).owned = (s.port p).owned := by
  unfold State.raise State.appendEntry
  split
  · rfl
  · split
    · rfl
    · split
      · dsimp only
        split
        · rw [State.port_setPort]
          split
          · next h => subst h; rfl
          · rfl
        · rfl
      · rfl

theorem State.Beat.owned {k : Scope} {s t : State} (h : State.Beat k s t) (hk : k.clears = false) (p : Port) :
    (t.port p).owned = (s.port p).owned := by
  cases h with
  | aside _ _ _ ports => rw [State.port_of_ports ports]
  | rerun => rfl
  | raise i n => exact s.owned_raise i n p
  | ends => rfl
  | retire here orphan => rw [State.port_retire here, orphan.resolve_left (by simp [hk])]; rfl
  | orphans scope => simp [hk] at scope
  | closes scope => simp [hk] at scope

/-- No smallest change raises an owned count. -/
theorem State.Beat.owned_le {k : Scope} {s t : State} (h : State.Beat k s t) (p : Port) :
    (t.port p).owned ≤ (s.port p).owned := by
  cases h with
  | aside _ _ _ ports => rw [State.port_of_ports ports]
  | rerun => rw [State.port_setPermit]
  | raise i n => rw [State.owned_raise]
  | ends => rw [State.port_withdraw, State.port_setPermit]
  | retire here =>
    rw [State.port_retire here]
    split
    · exact Nat.sub_le ..
    · exact Nat.le_refl _
  | orphans => rw [State.port_mapSlots]
  | closes _ x =>
    rw [State.port_setPort]
    split
    · exact Nat.zero_le _
    · exact Nat.le_refl _

theorem State.QuotaLaw.of_owned {s t : State} (h : s.QuotaLaw) (ho : ∀ p, (t.port p).owned ≤ (s.port p).owned)
    (hq : ∀ p, (t.port p).quota = (s.port p).quota) : t.QuotaLaw := by
  obtain ⟨howned, hsum⟩ := h
  refine ⟨fun p => ?_, by simpa only [hq] using hsum⟩
  rw [hq]
  exact (ho p).trans (howned p)

/-! ### References (R6, R7) -/

/-- What a handle shows of its permit to references: the owner. -/
theorem State.ReferenceLaw.of_owners {s t : State} (h : s.ReferenceLaw)
    (hr : ∀ x, (t.resolve x).map Permit.owner = (s.resolve x).map Permit.owner)
    (hp : ∀ j q', t.permit j = some q' →
      ∃ q, s.permit j = some q ∧ q'.owner = q.owner ∧ q'.trigger = q.trigger ∧ q'.gate = q.gate) : t.ReferenceLaw := by
  intro j q' hq'
  obtain ⟨q, hq, howner, htrig, hgate⟩ := hp j q' hq'
  obtain ⟨href, hpred⟩ := h j q hq
  refine ⟨fun x hx => ?_, by rw [howner, htrig]; exact hpred⟩
  rw [hr, howner]
  exact href x (by simpa only [Permit.references, htrig, hgate] using hx)

theorem State.resolve_setPermit (s : State) (i : SlotId) (p : Permit) (h : Handle) :
    (s.setPermit i p).resolve h = if h = s.handle i then some p else s.resolve h := by
  unfold State.resolve
  simp only [State.slot_setPermit, State.permit_setPermit]
  by_cases hi : i = h.slot
  · subst hi
    by_cases hg : (s.slot h.slot).gen = h.gen
    · have : h = s.handle h.slot := by cases h; simp_all [State.handle]
      simp [hg, ← this]
    · have : h ≠ s.handle h.slot := fun hh => hg (congrArg Handle.gen hh).symm
      simp [hg, this]
  · have : h ≠ s.handle i := fun hh => hi (congrArg Handle.slot hh).symm
    simp [hi, this]

/-- A record rewritten in its run keeps every reference to it and of it. -/
theorem State.ReferenceLaw.setPermit_reruns {s : State} {i : SlotId} {p p' : Permit} (h : s.ReferenceLaw)
    (here : s.permit i = some p) (runs : p.Reruns p') : (s.setPermit i p').ReferenceLaw := by
  refine h.of_owners (fun x => ?_) fun j q' hq' => ?_
  · rw [State.resolve_setPermit]
    split
    · next hx => rw [hx, State.resolve_handle, here, Option.map_some, Option.map_some, runs.owner]
    · rfl
  · rw [State.permit_setPermit] at hq'
    split at hq'
    · next hij => cases hq'; subst hij; exact ⟨p, here, runs.owner, runs.trigger, runs.gate⟩
    · exact ⟨q', hq', rfl, rfl, rfl⟩

theorem State.resolve_raise (s : State) (i : SlotId) (n : Notice) (h : Handle) :
    (s.raise i n).resolve h = if i = h.slot then (s.resolve h).map (Permit.raised · n) else s.resolve h := by
  unfold State.resolve
  simp only [State.gen_raise, State.permit_raise_any]
  split <;> split <;> rfl

theorem State.resolve_retire {s : State} {i : SlotId} {p : Permit} (hp : s.permit i = some p) (h : Handle) :
    (s.retire i).resolve h = if i = h.slot then none else (s.resolve h).map (Permit.dropReference (s.handle i)) := by
  unfold State.resolve
  by_cases hi : i = h.slot
  · rw [State.permit_retire_any hp, if_pos hi, if_pos hi, ite_self]
  · simp only [State.gen_retire_of_ne hi, State.permit_retire_any hp, if_neg hi]
    split <;> rfl

theorem Permit.mem_references {q : Permit} {x : Handle} :
    x ∈ q.references ↔ q.trigger = .chain (some x) ∨ q.gate = some x := by
  have htrig : x ∈ (match q.trigger with | .soft => [] | .input _ _ => [] | .chain h => h.toList) ↔
      q.trigger = .chain (some x) := by
    cases q.trigger <;> simp
  rw [Permit.references, List.mem_append, Option.mem_toList]
  exact or_congr htrig Iff.rfl

theorem Permit.dropReference_owned {q : Permit} (h : Handle) (hq : q.owner ≠ none) : q.dropReference h = q := by
  unfold Permit.dropReference
  cases ho : q.owner with
  | none => exact absurd ho hq
  | some o => rfl

theorem Permit.dropReference_orphan {q : Permit} (h : Handle) (hq : q.owner = none) : q.dropReference h =
    { q with
      trigger := if q.trigger = .chain (some h) then .chain none else q.trigger
      gate := if q.gate = some h then none else q.gate } := by
  unfold Permit.dropReference; rw [hq]

/-- The references of an orphan that loses those to a handle. -/
theorem Permit.mem_references_dropReference {q : Permit} {h x : Handle} (hq : q.owner = none)
    (hx : x ∈ (q.dropReference h).references) : x ∈ q.references ∧ x ≠ h := by
  rw [Permit.mem_references, Permit.dropReference_orphan h hq] at hx
  rw [Permit.mem_references]
  rcases hx with hx | hx
  · dsimp only at hx
    split at hx
    · cases hx
    · next hne => exact ⟨.inl hx, by rintro rfl; exact hne hx⟩
  · dsimp only at hx
    split at hx
    · cases hx
    · next hne => exact ⟨.inr hx, by rintro rfl; exact hne hx⟩

/-- The retirement of a permit keeps the references' law where none of the same owner refers to it but orphans, which lose the
reference (R2, R19, R153). -/
theorem State.ReferenceLaw.retire {s : State} {i : SlotId} {p : Permit} (h : s.ReferenceLaw) (hp : s.permit i = some p)
    (hfree : ∀ j q, j ≠ i → s.permit j = some q → q.owner = p.owner → q.owner ≠ none → s.handle i ∉ q.references) :
    (s.retire i).ReferenceLaw := by
  intro j q' hq'
  rw [State.permit_retire_any hp] at hq'
  split at hq'
  · cases hq'
  next hij =>
  obtain ⟨q, hq, rfl⟩ := Option.map_eq_some_iff.mp hq'
  obtain ⟨href, hpred⟩ := h j q hq
  have hkeep : ∀ x ∈ q.references, x ≠ s.handle i → ((s.retire i).resolve x).map Permit.owner = some q.owner := by
    intro x hx hne
    obtain ⟨r, hr, hro⟩ := Option.map_eq_some_iff.mp (href x hx)
    have hslot : i ≠ x.slot := by
      rintro rfl
      exact hne (State.resolve_eq_some.mp hr).1
    rw [State.resolve_retire hp, if_neg hslot, hr]
    simp [hro]
  by_cases hqo : q.owner = none
  · refine ⟨fun x hx => ?_, fun ho => absurd (by rw [Permit.owner_dropReference]; exact hqo) ho⟩
    obtain ⟨hx, hne⟩ := Permit.mem_references_dropReference hqo hx
    rw [Permit.owner_dropReference]
    exact hkeep x hx hne
  · rw [Permit.dropReference_owned _ hqo]
    refine ⟨fun x hx => hkeep x hx ?_, hpred⟩
    rintro rfl
    obtain ⟨r, hr, hro⟩ := Option.map_eq_some_iff.mp (href _ hx)
    rw [State.resolve_handle, hp] at hr
    cases hr
    exact hfree j q (Ne.symm hij) hq hro.symm hqo hx

theorem State.Beat.referenceLaw {k : Scope} {s t : State} (h : State.Beat k s t) (hk : k.clears = false)
    (hl : s.ReferenceLaw) : t.ReferenceLaw := by
  cases h with
  | aside _ _ slots =>
    exact hl.of_owners (fun x => by rw [State.resolve_of_slots slots])
      fun j q' hq' => ⟨q', by rw [← hq', State.permit_of_slots slots], rfl, rfl, rfl⟩
  | @rerun i p q here runs => exact hl.setPermit_reruns here runs
  | raise i n =>
    refine hl.of_owners (fun x => ?_) fun j q' hq' => ?_
    · rw [State.resolve_raise]
      split
      · rw [Option.map_map]; congr 1; funext q; exact q.owner_raised n
      · rfl
    · rw [State.permit_raise_any] at hq'
      split at hq'
      · obtain ⟨q, hq, rfl⟩ := Option.map_eq_some_iff.mp hq'
        exact ⟨q, hq, q.owner_raised n, q.trigger_raised n, q.gate_raised n⟩
      · exact ⟨q', hq', rfl, rfl, rfl⟩
  | @ends i p q _ here runs => exact hl.setPermit_reruns here runs
  | @retire i p here orphan =>
    have ho : p.owner = none := orphan.resolve_left (by simp [hk])
    exact hl.retire here fun j q _ _ h1 h2 => absurd (h1.trans ho) h2
  | orphans scope => simp [hk] at scope
  | closes scope => simp [hk] at scope

/-! ### Attention lists (R135, R136) -/

theorem State.awaits_iff {s : State} {p : Port} {h : Handle} : s.awaits p h = true ↔
    ∃ q, s.resolve h = some q ∧ q.owner = some { port := p, session := (s.port p).session } ∧ q.pending ≠ {} := by
  unfold State.awaits
  cases hr : s.resolve h with
  | none => simp
  | some q => simp [State.ownedBy, NoticeSet.isEmpty, NoticeSet.empty]

/-- The lists' law where the lists are the same and every handle awaits as it did. -/
theorem State.ListLaw.of_lists {s t : State} (h : s.ListLaw) (ha : ∀ p x, t.awaits p x = s.awaits p x)
    (hl : ∀ p, (t.port p).attention = (s.port p).attention)
    (ho : ∀ j q', t.permit j = some q' → q'.owner = none →
      ∃ q, s.permit j = some q ∧ q.owner = none ∧ q'.pending = q.pending) : t.ListLaw := by
  obtain ⟨hlists, horphans⟩ := h
  refine ⟨fun p => ?_, fun j q' hq' hown => ?_⟩
  · rw [hl]
    simpa only [ha] using hlists p
  · obtain ⟨q, hq, h1, h2⟩ := ho j q' hq' hown
    rw [h2]
    exact horphans j q hq h1

/-- Handles await as they did where each shows the same owner and pending set. -/
theorem State.awaits_of_shown {s t : State}
    (hr : ∀ x, (t.resolve x).map (fun q => (q.owner, q.pending)) = (s.resolve x).map (fun q => (q.owner, q.pending)))
    (hs : ∀ p, (t.port p).session = (s.port p).session) (p : Port) (x : Handle) : t.awaits p x = s.awaits p x := by
  have hx := hr x
  unfold State.awaits State.ownedBy
  rw [hs]
  cases ht : t.resolve x <;> cases hsx : s.resolve x <;> simp_all

/-- A record rewritten in its run keeps the lists' law. -/
theorem State.ListLaw.setPermit_reruns {s : State} {i : SlotId} {p p' : Permit} (h : s.ListLaw)
    (here : s.permit i = some p) (runs : p.Reruns p') : (s.setPermit i p').ListLaw := by
  refine h.of_lists (State.awaits_of_shown (fun x => ?_) fun _ => rfl) (fun _ => rfl) fun j q' hq' hown => ?_
  · rw [State.resolve_setPermit]
    split
    · next hx => rw [hx, State.resolve_handle, here, Option.map_some, Option.map_some, runs.owner, runs.pending]
    · rfl
  · rw [State.permit_setPermit] at hq'
    split at hq'
    · next hij => cases hq'; subst hij; exact ⟨p, here, runs.owner ▸ hown, runs.pending⟩
    · exact ⟨q', hq', hown, rfl⟩

/-- What a raise does (R134, R135): nothing, or the kind joins the pending set of an owned permit, and with the set empty before its
entry joins the tail of its owner's list. -/
theorem State.raise_cases (s : State) (i : SlotId) (n : Notice) : s.raise i n = s ∨
    ∃ p o, s.permit i = some p ∧ p.owner = some o ∧
      ((p.pending ≠ {} ∧ s.raise i n = s.setPermit i { p with pending := p.pending.add n }) ∨
        (p.pending = {} ∧ s.raise i n =
          (s.setPermit i { p with pending := p.pending.add n }).appendEntry o.port (.permit (s.handle i)))) := by
  unfold State.raise
  split
  · exact .inl rfl
  next p hp =>
  split
  · exact .inl rfl
  next o ho =>
  split
  · refine .inr ⟨p, o, hp, ho, ?_⟩
    by_cases he : p.pending = {}
    · exact .inr ⟨he, if_pos (by simp [NoticeSet.isEmpty, NoticeSet.empty, he])⟩
    · exact .inl ⟨he, if_neg (by simp [NoticeSet.isEmpty, NoticeSet.empty, he])⟩
  · exact .inl rfl

theorem NoticeSet.add_ne_empty (x : NoticeSet) (n : Notice) : x.add n ≠ {} := by
  cases n <;> simp [NoticeSet.add, NoticeSet.mk.injEq]

/-- Who awaits after a kind is added at an owned permit: as before, and now its owner. -/
theorem State.awaits_setPermit_add {s : State} {i : SlotId} {q : Permit} {o : Owner} (n : Notice) (hq : s.permit i = some q)
    (ho : q.owner = some o) (hs : (s.port o.port).session = o.session) (p : Port) (x : Handle) :
    (s.setPermit i { q with pending := q.pending.add n }).awaits p x = (s.awaits p x || decide (p = o.port ∧ x = s.handle i)) := by
  rw [Bool.eq_iff_iff, Bool.or_eq_true, decide_eq_true_iff, State.awaits_iff, State.awaits_iff]
  simp only [State.resolve_setPermit, State.port_setPermit]
  by_cases hx : x = s.handle i
  · subst hx
    simp only [if_true, Option.some.injEq, exists_eq_left', ho, NoticeSet.add_ne_empty, ne_eq, not_false_eq_true, and_true,
      State.resolve_handle, hq]
    constructor
    · rintro h; cases h; exact .inr rfl
    · rintro (⟨h, -⟩ | rfl)
      · exact h
      · rw [hs]
  · simp only [hx, if_false, and_false, or_false]

theorem State.ListLaw.raise {s : State} (h : s.ListLaw) (ho : s.OwnerLaw) (i : SlotId) (n : Notice) : (s.raise i n).ListLaw := by
  obtain he | ⟨q, o, hq, hqo, hcase⟩ := s.raise_cases i n
  · rw [he]; exact h
  have hsess := (ho i q hq o hqo).2
  have horph : ∀ j q', (s.setPermit i { q with pending := q.pending.add n }).permit j = some q' → q'.owner = none →
      ∃ r, s.permit j = some r ∧ r.owner = none ∧ q'.pending = r.pending := by
    intro j q' hq' hown
    rw [State.permit_setPermit] at hq'
    split at hq'
    · cases hq'; rw [hqo] at hown; cases hown
    · exact ⟨q', hq', hown, rfl⟩
  obtain ⟨hpend, he⟩ | ⟨hpend, he⟩ := hcase <;> rw [he]
  · refine h.of_lists (fun p x => ?_) (fun _ => rfl) horph
    rw [State.awaits_setPermit_add n hq hqo hsess]
    by_cases hx : p = o.port ∧ x = s.handle i
    · obtain ⟨rfl, rfl⟩ := hx
      have : s.awaits o.port (s.handle i) = true :=
        State.awaits_iff.mpr ⟨q, by rw [State.resolve_handle, hq], by rw [hqo, hsess], hpend⟩
      simp [this]
    · simp [hx]
  · obtain ⟨hlists, horphans⟩ := h
    refine ⟨fun p => ?_, fun j q' hq' hown => ?_⟩
    · obtain ⟨hperm, hline, hquench⟩ := hlists p
      have haw : ∀ x, ((s.setPermit i { q with pending := q.pending.add n }).appendEntry o.port (.permit (s.handle i))).awaits p x =
          (s.awaits p x || decide (p = o.port ∧ x = s.handle i)) := by
        intro x
        rw [← State.awaits_setPermit_add n hq hqo hsess]
        apply State.awaits_of_shown
        · exact fun _ => rfl
        · intro p'
          rw [State.appendEntry, State.port_setPort]
          split
          · next hp => rw [hp]
          · rfl
      by_cases hp : p = o.port
      · subst hp
        have hno : s.awaits o.port (s.handle i) = false := by
          rw [Bool.eq_false_iff, ne_eq, State.awaits_iff]
          rintro ⟨r, hr, -, hne⟩
          rw [State.resolve_handle, hq] at hr
          cases hr; exact hne hpend
        have hatt : (((s.setPermit i { q with pending := q.pending.add n }).appendEntry o.port (.permit (s.handle i))).port
            o.port).attention = (s.port o.port).attention ++ [.permit (s.handle i)] := by
          simp [State.appendEntry]
        refine ⟨fun x => ?_, fun l => ?_, ?_⟩
        · rw [hatt, haw, List.count_append, hperm x, List.count_singleton]
          by_cases hx : x = s.handle i
          · subst hx; simp [hno]
          · simp [hx, Ne.symm hx]
        · rw [hatt, List.filter_append]
          simpa [Entry.isLine] using hline l
        · rw [hatt, List.filter_append]
          simpa [Entry.isQuench] using hquench
      · have hatt : (((s.setPermit i { q with pending := q.pending.add n }).appendEntry o.port (.permit (s.handle i))).port
            p).attention = (s.port p).attention := by
          simp [State.appendEntry, Ne.symm hp]
        rw [hatt]
        refine ⟨fun x => ?_, hline, hquench⟩
        rw [haw, hperm x]
        simp [hp]
    · obtain ⟨r, hr, hro, hpe⟩ := horph j q' hq' hown
      rw [hpe]; exact horphans j r hr hro

/-- An orphan is awaited by no port. -/
theorem State.awaits_orphan {s : State} {i : SlotId} {q : Permit} (hq : s.permit i = some q) (ho : q.owner = none) (p : Port)
    {x : Handle} (hx : i = x.slot) : s.awaits p x = false := by
  rw [Bool.eq_false_iff, ne_eq, State.awaits_iff]
  rintro ⟨r, hr, hro, -⟩
  have := State.permit_of_resolve hr
  rw [← hx, hq] at this
  cases this
  rw [ho] at hro; cases hro

@[simp] theorem Permit.pending_dropReference (p : Permit) (h : Handle) : (p.dropReference h).pending = p.pending := by
  unfold Permit.dropReference
  split <;> rfl

theorem State.ListLaw.retire_orphan {s : State} {i : SlotId} {q : Permit} (h : s.ListLaw) (hq : s.permit i = some q)
    (ho : q.owner = none) : (s.retire i).ListLaw := by
  have hport : ∀ p, (s.retire i).port p = s.port p := fun p => by
    rw [State.port_retire hq, ho]; rfl
  refine h.of_lists (fun p x => ?_) (fun p => by rw [hport]) fun j q' hq' hown => ?_
  · by_cases hx : i = x.slot
    · rw [State.awaits_orphan hq ho p hx, Bool.eq_false_iff, ne_eq, State.awaits_iff]
      rintro ⟨r, hr, -⟩
      rw [State.resolve_retire hq, if_pos hx] at hr
      cases hr
    · unfold State.awaits State.ownedBy
      rw [State.resolve_retire hq, if_neg hx, hport]
      cases hr : s.resolve x with
      | none => rfl
      | some r => simp
  · rw [State.permit_retire_any hq] at hq'
    split at hq'
    · cases hq'
    · obtain ⟨r, hr, rfl⟩ := Option.map_eq_some_iff.mp hq'
      exact ⟨r, hr, by simpa using hown, r.pending_dropReference _⟩

theorem State.Beat.listLaw {k : Scope} {s t : State} (h : State.Beat k s t) (hk : k.clears = false) (ho : s.OwnerLaw)
    (hl : s.ListLaw) : t.ListLaw := by
  cases h with
  | aside _ _ slots ports =>
    refine hl.of_lists (State.awaits_of_shown (fun x => by rw [State.resolve_of_slots slots]) fun p => ?_) (fun p => ?_)
      fun j q' hq' hown => ⟨q', by rw [← hq', State.permit_of_slots slots], hown, rfl⟩
    · rw [State.port_of_ports ports]
    · rw [State.port_of_ports ports]
  | rerun here runs => exact hl.setPermit_reruns here runs
  | raise i n => exact hl.raise ho i n
  | ends _ here runs => exact hl.setPermit_reruns here runs
  | retire here orphan => exact hl.retire_orphan here (orphan.resolve_left (by simp [hk]))
  | orphans scope => simp [hk] at scope
  | closes scope => simp [hk] at scope

/-! ### What is due (R47, R121, R131) -/

/-- What is due stays so while its user goes on: a permit that is in service with the same shape and input trigger. -/
theorem State.mayBeDue_of {s t : State} (hs : s.Stands t) {d : Due} (hd : s.mayBeDue d)
    (hp : ∀ h q, d.isFor h = true → s.resolve h = some q → q.state.inService = true →
      ∃ q', t.resolve h = some q' ∧ q'.state.inService = true ∧ q'.shape = q.shape ∧
        ∀ n e, q.trigger = .input n e → q'.trigger = .input n e) : t.mayBeDue d := by
  cases d with
  | permitTick h =>
    obtain ⟨q, hq, hin⟩ := hd
    obtain ⟨q', hq', hin', -⟩ := hp h q (decide_eq_true rfl) hq hin
    exact ⟨q', hq', hin'⟩
  | groupTick k g => simpa only [State.mayBeDue, hs.timebase, show (t.group g).timebase = (s.group g).timebase by rw [hs.group]] using hd
  | lineTick k l =>
    simpa only [State.mayBeDue, hs.timebase, show (t.line l).checkTimebase = (s.line l).checkTimebase by rw [hs.line],
      show (t.line l).senseOn = (s.line l).senseOn by rw [hs.line]] using hd
  | sourceTick k tb => simpa only [State.mayBeDue, hs.timebase] using hd
  | sourceEdge n rising tb => simpa only [State.mayBeDue, hs.timebase] using hd
  | trigger h =>
    obtain ⟨q, hq, hin, n, e, htrig⟩ := hd
    obtain ⟨q', hq', hin', -, htrig'⟩ := hp h q (decide_eq_true rfl) hq hin
    exact ⟨q', hq', hin', n, e, htrig' n e htrig⟩
  | renewal h =>
    obtain ⟨q, hq, hin, n, e, m, hsh⟩ := hd
    obtain ⟨q', hq', hin', hsh', -⟩ := hp h q (decide_eq_true rfl) hq hin
    exact ⟨q', hq', hin', n, e, m, hsh'.trans hsh⟩

/-- Nothing becomes due by a happening, and what stays due may. -/
abbrev State.DueStays (s t : State) : Prop := ∀ d ∈ t.due, d ∈ s.due ∧ (s.mayBeDue d → t.mayBeDue d)

theorem State.DueLaw.of_stays {s t : State} (h : s.DueLaw) (hd : s.DueStays t) : t.DueLaw :=
  fun d ht => (hd d ht).2 (h d (hd d ht).1)

theorem State.due_raise (s : State) (i : SlotId) (n : Notice) : (s.raise i n).due = s.due := by
  obtain he | ⟨p, o, -, -, ⟨-, he⟩ | ⟨-, he⟩⟩ := s.raise_cases i n <;> rw [he] <;> rfl

theorem Permit.shape_raised (p : Permit) (n : Notice) : (p.raised n).shape = p.shape := by
  unfold Permit.raised; split <;> rfl

theorem Permit.state_raised (p : Permit) (n : Notice) : (p.raised n).state = p.state := by
  unfold Permit.raised; split <;> rfl

theorem Permit.state_dropReference (p : Permit) (h : Handle) : (p.dropReference h).state = p.state := by
  unfold Permit.dropReference; split <;> rfl

theorem Permit.shape_dropReference (p : Permit) (h : Handle) : (p.dropReference h).shape = p.shape := by
  unfold Permit.dropReference; split <;> rfl

theorem Permit.trigger_dropReference_input {p : Permit} {n : InputId} {e : Edge} (h : Handle) (hp : p.trigger = .input n e) :
    (p.dropReference h).trigger = .input n e := by
  unfold Permit.dropReference; split <;> simp [hp]

theorem State.Beat.dueStays {k : Scope} {s t : State} (h : State.Beat k s t) : s.DueStays t := by
  have hs := h.stands
  intro d ht
  cases h with
  | aside _ _ slots _ due =>
    exact ⟨due ▸ ht, fun hd => State.mayBeDue_of hs hd fun h q _ hq hin =>
      ⟨q, by rw [State.resolve_of_slots slots, hq], hin, rfl, fun _ _ ht => ht⟩⟩
  | @rerun i p p' here runs _ before after =>
    refine ⟨ht, fun hd => State.mayBeDue_of hs hd fun h q _ hq hin => ?_⟩
    rw [State.resolve_setPermit]
    split
    · next hh =>
      rw [hh, State.resolve_handle, here] at hq
      cases hq
      exact ⟨p', rfl, after, runs.shape, fun n e ht => runs.trigger.trans ht⟩
    · exact ⟨q, hq, hin, rfl, fun _ _ ht => ht⟩
  | raise i n =>
    refine ⟨s.due_raise i n ▸ ht, fun hd => State.mayBeDue_of hs hd fun h q _ hq hin => ?_⟩
    rw [State.resolve_raise, hq]
    split
    · exact ⟨_, rfl, by rwa [Permit.state_raised], q.shape_raised n, fun n e ht => by rwa [Permit.trigger_raised]⟩
    · exact ⟨q, rfl, hin, rfl, fun _ _ ht => ht⟩
  | @ends i p p' _ here runs =>
    obtain ⟨ht, hfor⟩ := State.mem_due_withdraw.mp ht
    refine ⟨ht, fun hd => State.mayBeDue_of hs hd fun h q hdh hq hin => ⟨q, ?_, hin, rfl, fun _ _ ht => ht⟩⟩
    rw [State.resolve_withdraw, State.resolve_setPermit, if_neg, hq]
    rintro rfl
    rw [hdh] at hfor; cases hfor
  | @retire i p here =>
    rw [State.due_retire here, List.mem_filter, Bool.not_eq_true'] at ht
    refine ⟨ht.1, fun hd => State.mayBeDue_of hs hd fun h q hdh hq hin => ?_⟩
    have hne : i ≠ h.slot := by
      rintro rfl
      rw [← (State.resolve_eq_some.mp hq).1, hdh] at ht
      exact absurd ht.2 (by simp)
    rw [State.resolve_retire here, if_neg hne, hq]
    exact ⟨_, rfl, by rwa [Permit.state_dropReference], q.shape_dropReference _, fun n e => Permit.trigger_dropReference_input _⟩
  | @orphans made _ running =>
    refine ⟨by simpa using ht, fun hd => State.mayBeDue_of hs hd fun h q _ hq hin => ?_⟩
    obtain ⟨hh, hq⟩ := State.resolve_eq_some.mp hq
    by_cases hm : made h.slot = true
    · exact ⟨q.orphaned, State.resolve_eq_some.mpr
        ⟨by simpa [State.handle, hm] using hh, by simp only [State.permit] at hq; simp [hm, hq]⟩, hin, rfl, fun _ _ ht => ht⟩
    · exact ⟨q, State.resolve_eq_some.mpr
        ⟨by simpa [State.handle, hm] using hh, by simp only [State.permit] at hq; simp [hm, hq]⟩, hin, rfl, fun _ _ ht => ht⟩
  | closes _ p =>
    exact ⟨ht, fun hd => State.mayBeDue_of hs hd fun h q _ hq hin => ⟨q, hq, hin, rfl, fun _ _ ht => ht⟩⟩

/-! ### Orphans run (R153) -/

/-- The ownerless permits in some slots are running. -/
def State.OrphansRun (s : State) (there : SlotId → Prop) : Prop :=
  ∀ i, there i → ∀ q, s.permit i = some q → q.owner = none → q.state.running = true

theorem State.orphanLaw_iff {s : State} : s.OrphanLaw ↔ s.OrphansRun fun _ => True :=
  ⟨fun h i _ q hq => h i q hq, fun h i q hq => h i trivial q hq⟩

theorem State.OrphansRun.of_permits {s t : State} {there : SlotId → Prop} (h : s.OrphansRun there)
    (hp : ∀ j q', there j → t.permit j = some q' → q'.owner = none →
      q'.state.running = true ∨ ∃ q, s.permit j = some q ∧ q.owner = none ∧ (q.state.running = true → q'.state.running = true)) :
    t.OrphansRun there := by
  intro j hj q' hq' ho
  obtain hr | ⟨q, hq, hqo, hr⟩ := hp j q' hj hq' ho
  · exact hr
  · exact hr (h j hj q hq hqo)

theorem State.Beat.orphansRun {k : Scope} {s t : State} {there : SlotId → Prop} (h : State.Beat k s t)
    (hk : k.endsPermits = false) (ho : s.OrphansRun there) : t.OrphansRun there := by
  have hclear : k.clears = false := by cases k <;> simp_all [Scope.endsPermits, Scope.clears]
  refine ho.of_permits fun j q' _ hq' hown => ?_
  cases h with
  | aside _ _ slots => exact .inr ⟨q', by rw [← hq', State.permit_of_slots slots], hown, fun h => h⟩
  | @rerun i p p' here runs _ _ _ _ goesOn =>
    rw [State.permit_setPermit] at hq'
    split at hq'
    · next hij => cases hq'; subst hij; exact .inr ⟨p, here, runs.owner ▸ hown, goesOn⟩
    · exact .inr ⟨q', hq', hown, fun h => h⟩
  | raise i n =>
    rw [State.permit_raise_any] at hq'
    split at hq'
    · obtain ⟨q, hq, rfl⟩ := Option.map_eq_some_iff.mp hq'
      exact .inr ⟨q, hq, by simpa using hown, fun h => by rwa [Permit.state_raised]⟩
    · exact .inr ⟨q', hq', hown, fun h => h⟩
  | ends scope => simp [hk] at scope
  | retire here =>
    rw [State.permit_retire_any here] at hq'
    split at hq'
    · cases hq'
    · obtain ⟨q, hq, rfl⟩ := Option.map_eq_some_iff.mp hq'
      exact .inr ⟨q, hq, by simpa using hown, fun h => by rwa [Permit.state_dropReference]⟩
  | orphans scope => simp [hclear] at scope
  | closes scope => simp [hclear] at scope

/-! ### Lists and levels -/

/-- A raise appends to its owner's list at most (R135). -/
theorem State.appends_raise (s : State) (i : SlotId) (n : Notice) (p : Port) : (s.raise i n).Appends p (s.port p).attention := by
  obtain he | ⟨q, o, -, -, ⟨-, he⟩ | ⟨-, he⟩⟩ := s.raise_cases i n <;> rw [he]
  · exact .refl s p
  · exact .refl s p
  · by_cases hp : o.port = p
    · subst hp
      exact ⟨[.permit (s.handle i)], by simp [State.appendEntry], by simp⟩
    · exact ⟨[], by simp [State.appendEntry, hp]⟩

theorem State.Beat.appends {k : Scope} {s t : State} (h : State.Beat k s t) (hk : k.clears = false) (p : Port) :
    t.Appends p (s.port p).attention := by
  cases h with
  | aside _ _ _ ports => exact ⟨[], by simp [State.port_of_ports ports]⟩
  | rerun => exact .refl s p
  | raise i n => exact s.appends_raise i n p
  | ends => exact .refl s p
  | retire here orphan =>
    refine ⟨[], ?_, by simp⟩
    rw [State.port_retire here, orphan.resolve_left (by simp [hk])]
    simp
  | orphans scope => simp [hk] at scope
  | closes scope => simp [hk] at scope

theorem State.line_raise (s : State) (i : SlotId) (n : Notice) (l : LineId) : (s.raise i n).line l = s.line l := by
  obtain he | ⟨q, o, -, -, ⟨-, he⟩ | ⟨-, he⟩⟩ := s.raise_cases i n <;> rw [he] <;> rfl

theorem State.group_raise (s : State) (i : SlotId) (n : Notice) (g : GroupId) : (s.raise i n).group g = s.group g := by
  obtain he | ⟨q, o, -, -, ⟨-, he⟩ | ⟨-, he⟩⟩ := s.raise_cases i n <;> rw [he] <;> rfl

theorem State.line_leaveOwner (s : State) (h : Handle) (p : Permit) (l : LineId) : (s.leaveOwner h p).line l = s.line l := by
  unfold State.leaveOwner; split <;> rfl

theorem State.group_leaveOwner (s : State) (h : Handle) (p : Permit) (g : GroupId) :
    (s.leaveOwner h p).group g = s.group g := by
  unfold State.leaveOwner; split <;> rfl

theorem State.line_retire (s : State) (i : SlotId) (l : LineId) : (s.retire i).line l = s.line l := by
  unfold State.retire
  split
  · rfl
  · simp [State.line_leaveOwner]

theorem State.group_retire (s : State) (i : SlotId) (g : GroupId) : (s.retire i).group g = s.group g := by
  unfold State.retire
  split
  · rfl
  · simp [State.group_leaveOwner]

/-- No smallest change moves a level or a mismatch count. -/
theorem State.Beat.levels {k : Scope} {s t : State} (h : State.Beat k s t) (l : LineId) :
    (t.line l).asserted = (s.line l).asserted ∧ (t.line l).mismatch = (s.line l).mismatch := by
  cases h with
  | aside _ levels => exact levels l
  | rerun => exact ⟨rfl, rfl⟩
  | raise i n => rw [State.line_raise]; exact ⟨rfl, rfl⟩
  | ends => exact ⟨rfl, rfl⟩
  | retire => rw [State.line_retire]; exact ⟨rfl, rfl⟩
  | orphans => rw [State.line_mapSlots]; exact ⟨rfl, rfl⟩
  | closes => exact ⟨rfl, rfl⟩

/-! ### Happenings of many smallest changes -/

/-- A happening at the permits: smallest changes one after the other. -/
abbrev State.Beats (k : Scope) : State → State → Prop := Relation.ReflTransGen (State.Beat k)

/-- What every smallest change keeps, a happening keeps. -/
theorem State.Beats.keep {k : Scope} {P : State → Prop} {s t : State} (h : State.Beats k s t)
    (hP : ∀ s t, State.Beat k s t → P s → P t) (hs : P s) : P t := by
  induction h with
  | refl => exact hs
  | tail _ hb ih => exact hP _ _ hb ih

section
variable {k : Scope} {s t : State} (h : State.Beats k s t)
include h

theorem State.Beats.stands : s.Stands t := h.keep (fun _ _ hb hs => hs.trans hb.stands) (.refl s)

theorem State.Beats.moves (hk : k.clears = false) : s.Moves t := h.keep (fun _ _ hb hs => hs.trans (hb.moves hk)) (.refl s)

theorem State.Beats.evolves : s.PermitsEvolve t := by
  induction h with
  | refl => exact fun j p hp => ⟨p, hp, .refl _ _⟩
  | tail hsb hb ih =>
    intro j p'' hp''
    obtain ⟨p', hp', e'⟩ := hb.evolves hp''
    obtain ⟨p, hp, e⟩ := ih j p' hp'
    exact ⟨p, hp, e.trans ((State.Beats.stands hsb).quenched ▸ e')⟩

theorem State.Beats.levels (l : LineId) :
    (t.line l).asserted = (s.line l).asserted ∧ (t.line l).mismatch = (s.line l).mismatch :=
  h.keep (P := fun t => (t.line l).asserted = (s.line l).asserted ∧ (t.line l).mismatch = (s.line l).mismatch)
    (fun _ _ hb hs => ⟨(hb.levels l).1.trans hs.1, (hb.levels l).2.trans hs.2⟩) ⟨rfl, rfl⟩

theorem State.Beats.appends (hk : k.clears = false) (p : Port) : t.Appends p (s.port p).attention :=
  h.keep (P := fun t => t.Appends p (s.port p).attention) (fun _ _ hb hs => hs.trans (hb.appends hk p)) (.refl s p)

theorem State.Beats.dueStays : s.DueStays t := by
  induction h with
  | refl => exact fun d hd => ⟨hd, fun h => h⟩
  | tail _ hb ih =>
    intro d hd
    obtain ⟨hd', hb'⟩ := hb.dueStays d hd
    exact ⟨(ih d hd').1, fun h => hb' ((ih d hd').2 h)⟩

theorem State.Beats.ownerAt (hk : k.clears = false) (j : SlotId) : t.ownerAt j = s.ownerAt j :=
  h.keep (P := fun t => t.ownerAt j = s.ownerAt j) (fun _ _ hb hs => (hb.ownerAt hk j).trans hs) rfl

theorem State.Beats.owned (hk : k.clears = false) (p : Port) : (t.port p).owned = (s.port p).owned :=
  h.keep (P := fun t => (t.port p).owned = (s.port p).owned) (fun _ _ hb hs => (hb.owned hk p).trans hs) rfl

theorem State.Beats.owned_le (p : Port) : (t.port p).owned ≤ (s.port p).owned :=
  h.keep (P := fun t => (t.port p).owned ≤ (s.port p).owned) (fun _ _ hb hs => (hb.owned_le p).trans hs) (Nat.le_refl _)

theorem State.Beats.lockLaw (hl : s.LockLaw) : t.LockLaw := hl.of_evolve h.evolves h.stands.condition

theorem State.Beats.quenchLaw (hl : s.QuenchLaw) : t.QuenchLaw := hl.of_evolve h.evolves h.stands.quenched h.stands.resetLow

theorem State.Beats.recordLaw (hl : s.RecordLaw) : t.RecordLaw := hl.of_evolve h.evolves

theorem State.Beats.timebaseLaw (hl : s.TimebaseLaw) : t.TimebaseLaw := hl.of_evolve h.evolves h.stands.timebase

theorem State.Beats.dueLaw (hl : s.DueLaw) : t.DueLaw := hl.of_stays h.dueStays

theorem State.Beats.quotaLaw (hl : s.QuotaLaw) : t.QuotaLaw := hl.of_owned h.owned_le fun p => (h.stands.port p).1

theorem State.Beats.isOpen (hk : k.clears = false) (p : Port) :
    (t.port p).isOpen = (s.port p).isOpen ∧ (t.port p).session = (s.port p).session := by
  rw [(h.moves hk).port p]; exact ⟨rfl, rfl⟩

theorem State.Beats.ownerLaw (hk : k.clears = false) (hl : s.OwnerLaw) : t.OwnerLaw := hl.of_owners (h.ownerAt hk) (h.isOpen hk)

theorem State.Beats.countLaw (hk : k.clears = false) (hl : s.CountLaw) : t.CountLaw :=
  hl.of_owners (h.ownerAt hk) fun p => ⟨h.owned hk p, (h.isOpen hk p).2⟩

theorem State.Beats.referenceLaw (hk : k.clears = false) (hl : s.ReferenceLaw) : t.ReferenceLaw :=
  h.keep (fun _ _ hb => hb.referenceLaw hk) hl

theorem State.Beats.listLaw (hk : k.clears = false) (ho : s.OwnerLaw) (hl : s.ListLaw) : t.ListLaw := by
  induction h with
  | refl => exact hl
  | tail hsb hb ih => exact hb.listLaw hk (State.Beats.ownerLaw hsb hk ho) ih

theorem State.Beats.orphansRun {there : SlotId → Prop} (hk : k.endsPermits = false) (ho : s.OrphansRun there) : t.OrphansRun there :=
  h.keep (fun _ _ hb => hb.orphansRun hk) ho

end

end Sys2Proof.Machine
end

section
/-! SUPPORT. The permit record in its ranges (R8, R9, R27, R38): what every rewriting of a run keeps. -/

namespace Sys2Proof.Machine

set_option Elab.async false

/-- The cycle count, and the shape's own counts, in their ranges. -/
def Shape.countsInRange (x : Shape) (cycles : Nat) : Bool :=
  match x with
  | .pulse => cycles = 0
  | .train rest repeats => 1 ≤ rest && rest ≤ 65535 && repeats ≤ 65535 && cycles ≤ 65535
  | .lease _ m => cycles = 0 && m ≤ 65535

/-- The block limit in its range, and no blocked age without one. -/
def blockInRange (limit : Option Nat) (age : Nat) : Bool :=
  match limit with
  | none => age = 0
  | some b => 1 ≤ b && b ≤ 65535

/-- Remaining, by the state (R27). -/
def remainingInRange (x : PState) (remaining : Nat) : Prop :=
  (countsPhase x = true → 1 ≤ remaining ∧ remaining ≤ 65535) ∧ (countsPhase x = false → remaining = 0)

theorem Permit.inRanges_iff {p : Permit} : p.inRanges = true ↔
    (p.lines ≠ 0 ∧ (1 ≤ p.hold ∧ p.hold ≤ 65535) ∧ p.wait ≤ 65535 ∧ p.mask.ended = false) ∧
      remainingInRange p.state p.remaining ∧ (p.endReason.isSome = true ↔ p.state = .ended) ∧
      p.shape.countsInRange p.cycles = true ∧ p.renewalAge ≤ p.shape.window ∧ (p.state = .resting → p.shape.isTrain = true) ∧
      blockInRange p.blockLimit p.blockedAge = true := by
  have hshape : (match p.shape with
      | .pulse => decide (p.cycles = 0)
      | .train rest repeats => 1 ≤ rest && rest ≤ 65535 && repeats ≤ 65535 && p.cycles ≤ 65535
      | .lease _ m => p.cycles = 0 && m ≤ 65535) = p.shape.countsInRange p.cycles := rfl
  have hblock : (match p.blockLimit with
      | none => decide (p.blockedAge = 0)
      | some b => 1 ≤ b && b ≤ 65535) = blockInRange p.blockLimit p.blockedAge := rfl
  have hend : (p.endReason.isSome == (p.state == .ended)) = true ↔ (p.endReason.isSome = true ↔ p.state = .ended) := by
    rw [beq_iff_eq, Bool.eq_iff_iff, beq_iff_eq]
  have hrem : (if countsPhase p.state then 1 ≤ p.remaining && p.remaining ≤ 65535 else decide (p.remaining = 0)) = true ↔
      remainingInRange p.state p.remaining := by
    cases hc : countsPhase p.state <;> simp [remainingInRange, hc]
  have hrest : (decide (p.state ≠ .resting) || p.shape.isTrain) = true ↔ (p.state = .resting → p.shape.isTrain = true) := by
    by_cases hs : p.state = .resting <;> simp [hs]
  have hall : p.inRanges = (p.lines ≠ 0 && 1 ≤ p.hold && p.hold ≤ 65535 && p.wait ≤ 65535 &&
    (if countsPhase p.state then 1 ≤ p.remaining && p.remaining ≤ 65535 else decide (p.remaining = 0)) &&
    (p.endReason.isSome == (p.state == .ended)) && p.shape.countsInRange p.cycles && p.renewalAge ≤ p.shape.window &&
    (decide (p.state ≠ .resting) || p.shape.isTrain) && blockInRange p.blockLimit p.blockedAge && !p.mask.ended) := rfl
  rw [hall]
  simp only [Bool.and_eq_true, decide_eq_true_eq, Bool.not_eq_true', hend, hrem, hrest]
  constructor
  · rintro ⟨⟨⟨⟨⟨⟨⟨⟨⟨⟨hl, h1⟩, h2⟩, hw⟩, hr⟩, he⟩, hc⟩, ha⟩, hs⟩, hb⟩, hm⟩
    exact ⟨⟨hl, ⟨h1, h2⟩, hw, hm⟩, hr, he, hc, ha, hs, hb⟩
  · rintro ⟨⟨hl, ⟨h1, h2⟩, hw, hm⟩, hr, he, hc, ha, hs, hb⟩
    exact ⟨⟨⟨⟨⟨⟨⟨⟨⟨⟨hl, h1⟩, h2⟩, hw⟩, hr⟩, he⟩, hc⟩, ha⟩, hs⟩, hb⟩, hm⟩

theorem countsPhase_eq (x : PState) : countsPhase x = decide (x = .waiting ∨ x = .active ∨ x = .resting) := by cases x <;> rfl

/-- A rewritten record is in its ranges when what was rewritten is. -/
theorem Permit.Reruns.inRanges {p p' : Permit} (h : p.Reruns p') (hp : p.inRanges = true)
    (hrem : remainingInRange p'.state p'.remaining) (hend : p'.endReason.isSome = true ↔ p'.state = .ended)
    (hcyc : p'.shape.countsInRange p'.cycles = true) (hage : p'.renewalAge ≤ p'.shape.window)
    (hrest : p'.state = .resting → p'.shape.isTrain = true) (hblock : blockInRange p'.blockLimit p'.blockedAge = true) :
    p'.inRanges = true := by
  refine Permit.inRanges_iff.mpr ⟨?_, hrem, hend, hcyc, hage, hrest, hblock⟩
  obtain ⟨hfix, -⟩ := Permit.inRanges_iff.mp hp
  rw [h]
  exact hfix

theorem blockInRange_zero {limit : Option Nat} {age : Nat} (h : blockInRange limit age = true) : blockInRange limit 0 = true := by
  cases limit with
  | none => rfl
  | some b => exact h

theorem Shape.countsInRange_zero {x : Shape} {cycles : Nat} (h : x.countsInRange cycles = true) : x.countsInRange 0 = true := by
  cases x with
  | pulse => rfl
  | train rest repeats => simp_all [Shape.countsInRange]
  | lease src m => simp_all [Shape.countsInRange]

theorem endReason_eq_none {p : Permit} (hp : p.inRanges = true) (hs : p.state ≠ .ended) : p.endReason = none := by
  obtain ⟨-, -, hend, -⟩ := Permit.inRanges_iff.mp hp
  cases he : p.endReason with
  | none => rfl
  | some r => exact absurd (hend.mp (by rw [he]; rfl)) hs

section
variable {p : Permit} (hp : p.inRanges = true)
include hp

theorem Permit.inRanges_stoppedBy (r : EndReason) : (p.stoppedBy r).inRanges = true := by
  obtain ⟨-, -, -, hcyc, hage, -, hblock⟩ := Permit.inRanges_iff.mp hp
  exact (p.reruns_stoppedBy r).inRanges hp ⟨nofun, fun _ => rfl⟩ ⟨fun _ => rfl, fun _ => rfl⟩ hcyc hage nofun hblock

/-- A permit that leaves its state for one that counts. -/
theorem Permit.inRanges_counting (hs : p.state ≠ .ended) {x : PState} {n : Nat} (hx : countsPhase x = true) (h1 : 1 ≤ n)
    (h2 : n ≤ 65535) (hr : x = .resting → p.shape.isTrain = true) :
    ({ p with state := x, remaining := n } : Permit).inRanges = true := by
  obtain ⟨-, -, -, hcyc, hage, -, hblock⟩ := Permit.inRanges_iff.mp hp
  refine Permit.Reruns.inRanges rfl hp ⟨fun _ => ⟨h1, h2⟩, fun h => ?_⟩ ⟨fun h => ?_, fun h => ?_⟩ hcyc hage hr hblock
  · exact absurd (hx.symm.trans h) nofun
  · rw [endReason_eq_none hp hs] at h; cases h
  · rw [show x = .ended from h] at hx; cases hx

theorem Permit.inRanges_clearCounters : p.clearCounters.inRanges = true := by
  obtain ⟨-, hrem, hend, hcyc, -, hrest, hblock⟩ := Permit.inRanges_iff.mp hp
  exact Permit.Reruns.inRanges rfl hp hrem hend (Shape.countsInRange_zero hcyc) (Nat.zero_le _) hrest (blockInRange_zero hblock)

theorem Permit.inRanges_enteringActive (hs : p.state ≠ .ended) (b : Bool) : (p.enteringActive b).inRanges = true := by
  obtain ⟨⟨-, hhold, -⟩, -, -, hcyc, hage, -, hblock⟩ := Permit.inRanges_iff.mp hp
  refine Permit.Reruns.inRanges rfl hp ⟨fun _ => hhold, nofun⟩ ⟨fun h => ?_, nofun⟩ ?_ ?_ nofun ?_
  · rw [show (p.enteringActive b).endReason = p.endReason from rfl, endReason_eq_none hp hs] at h; cases h
  · show p.shape.countsInRange (if p.shape.isTrain then min 65535 (p.cycles + 1) else p.cycles) = true
    cases hsh : p.shape <;> simp_all [Shape.countsInRange, Shape.isTrain]
  · show (if p.shape.isLease then 0 else p.renewalAge) ≤ p.shape.window
    split
    · exact Nat.zero_le _
    · exact hage
  · show blockInRange p.blockLimit (if b then 0 else p.blockedAge) = true
    split
    · exact blockInRange_zero hblock
    · exact hblock

/-- A permit as entry to BLOCKED writes it (R31). -/
theorem Permit.inRanges_enteringBlocked (hs : p.state ≠ .ended) :
    ({ p with state := .blocked, remaining := 0, blockedAge := 0 } : Permit).inRanges = true := by
  obtain ⟨-, -, -, hcyc, hage, -, hblock⟩ := Permit.inRanges_iff.mp hp
  refine Permit.Reruns.inRanges rfl hp ⟨nofun, fun _ => rfl⟩ ⟨fun h => ?_, nofun⟩ hcyc hage nofun (blockInRange_zero hblock)
  exact absurd (show p.endReason.isSome = true from h) (by simp [endReason_eq_none hp hs])

theorem Permit.inRanges_restartedInPlace (hs : p.state = .active) : p.restartedInPlace.inRanges = true := by
  obtain ⟨⟨-, hhold, -⟩, -, hend, hcyc, -, hrest, hblock⟩ := Permit.inRanges_iff.mp hp
  refine Permit.Reruns.inRanges rfl hp ⟨fun _ => hhold, fun h => ?_⟩ hend ?_ (Nat.zero_le _) hrest (blockInRange_zero hblock)
  · rw [show p.restartedInPlace.state = .active from hs] at h; cases h
  · show p.shape.countsInRange (if p.shape.isTrain then 1 else 0) = true
    cases hsh : p.shape <;> simp_all [Shape.countsInRange, Shape.isTrain]

theorem Permit.inRanges_armed (hs : p.state = .arming) : ({ p with state := .armed } : Permit).inRanges = true := by
  obtain ⟨-, hrem, hend, hcyc, hage, -, hblock⟩ := Permit.inRanges_iff.mp hp
  refine Permit.Reruns.inRanges rfl hp ⟨nofun, fun _ => hrem.2 (by rw [hs]; rfl)⟩ ⟨fun h => ?_, nofun⟩ hcyc hage nofun hblock
  exact absurd (hend.mp h) (by simp [hs])

/-- The renewal age as a counted tick leaves it (R66). -/
theorem Permit.inRanges_countHold {n : Nat} (hs : p.state = .active) (h1 : 1 ≤ n) (h2 : n ≤ 65535) :
    ({ p.countHold with remaining := n } : Permit).inRanges = true := by
  obtain ⟨-, -, hend, hcyc, hage, hrest, hblock⟩ := Permit.inRanges_iff.mp hp
  refine Permit.Reruns.inRanges (p := p) rfl hp ⟨fun _ => ⟨h1, h2⟩, fun h => ?_⟩ hend hcyc ?_ hrest hblock
  · rw [show p.countHold.state = .active from hs] at h; cases h
  · show (if p.shape.window = 0 then p.renewalAge else min p.shape.window (p.renewalAge + 1)) ≤ p.shape.window
    split
    · exact hage
    · exact Nat.min_le_left ..

theorem Permit.inRanges_blockedAge {b n : Nat} (hb : p.blockLimit = some b) :
    ({ p with blockedAge := n } : Permit).inRanges = true := by
  obtain ⟨-, hrem, hend, hcyc, hage, hrest, hblock⟩ := Permit.inRanges_iff.mp hp
  refine Permit.Reruns.inRanges rfl hp hrem hend hcyc hage hrest ?_
  show blockInRange p.blockLimit n = true
  rw [hb] at hblock ⊢
  exact hblock

/-- A renewal restarts the hold (R68, R71). -/
theorem Permit.inRanges_renewed (hs : p.state = .active) : p.renewed.inRanges = true := by
  obtain ⟨⟨-, hhold, -⟩, -, hend, hcyc, -, hrest, hblock⟩ := Permit.inRanges_iff.mp hp
  refine Permit.Reruns.inRanges rfl hp ⟨fun _ => hhold, fun h => ?_⟩ hend hcyc (Nat.zero_le _) hrest hblock
  rw [show p.renewed.state = .active from hs] at h; cases h

theorem Permit.inRanges_rearmed : p.rearmed.inRanges = true := by
  obtain ⟨-, -, -, hcyc, -, -, hblock⟩ := Permit.inRanges_iff.mp hp
  exact Permit.Reruns.inRanges rfl hp ⟨nofun, fun _ => rfl⟩ ⟨nofun, nofun⟩ (Shape.countsInRange_zero hcyc) (Nat.zero_le _) nofun
    (blockInRange_zero hblock)

end

end Sys2Proof.Machine
end

section
/-! SUPPORT. What the operations of Machine/Ops.lean come to: chains of changes, each of which takes a permit from one state to the
next with its claims and its place in a queue. -/

namespace Sys2Proof.Machine

set_option Elab.async false

/-! ### Changes -/

/-- The permit holds claims or a place in a queue: ACTIVE or BLOCKED. -/
def grips (x : PState) : Bool := x = .active || x = .blocked

/-- A group that may leave its state: HELD by a line without claims, or in GAP (R94, R95). -/
def State.mayFree (s : State) (g : GroupId) : Prop := s.holderReleased g = true ∨ (s.group g).state.isGap = true

/-- One change of a happening at the permits, whole with its claims and its queue place. -/
inductive State.Change (k : Scope) : State → State → Prop
  | drawn {s : State} : State.Change k s s.drawn
  | raise {s : State} (i : SlotId) (n : Notice) : State.Change k s (s.raise i n)
  /-- A permit in service stays so, with the claims or the place it has, or without any. -/
  | rerun {s : State} {i : SlotId} {p p' : Permit} (here : s.permit i = some p) (runs : p.Reruns p')
      (ranges : p.inRanges = true → p'.inRanges = true) (before : p.state.inService = true) (after : p'.state.inService = true)
      (started : p'.state.running = true → p.state.running = true ∨ s.quenched = false)
      (goesOn : p.state.running = true → p'.state.running = true)
      (grip : p'.state = p.state ∨ (grips p.state = false ∧ grips p'.state = false)) : State.Change k s (s.setPermit i p')
  /-- An activation request (R29). -/
  | activate {s : State} {i : SlotId} {p : Permit} (here : s.permit i = some p) (before : p.state.inService = true)
      (grip : grips p.state = false) (started : p.state.running = true ∨ s.quenched = false) : State.Change k s (s.activate i)
  /-- A permit leaves a running state for WAITING or RESTING (R34, R54). -/
  | stop {s : State} {i : SlotId} {p p' : Permit} (scope : k.stops = true ∨ p.state ≠ .active) (here : s.permit i = some p) (runs : p.Reruns p')
      (ranges : p.inRanges = true → p'.inRanges = true) (before : p.state.running = true)
      (after : p'.state = .waiting ∨ p'.state = .resting) : State.Change k s ((s.detach i).setPermit i p')
  | ends {s : State} (scope : k.endsPermits = true) (i : SlotId) (r : EndReason) : State.Change k s (s.enterEnded i r)
  /-- An orphan is retired (R153). -/
  | retire {s : State} {i : SlotId} {p : Permit} (here : s.permit i = some p) (orphan : p.owner = none)
      (grip : grips p.state = false) : State.Change k s (s.retire i)
  /-- A group is FREE and makes a grant (R94 to R96). -/
  | frees {s : State} {g : GroupId} (may : s.mayFree g) :
      State.Change k s ((s.setGroup g { s.group g with state := .free }).grant g)
  /-- A group is in GAP (R94, R95). -/
  | gaps {s : State} {g : GroupId} (may : s.mayFree g) (n : Nat) :
      State.Change k s (s.setGroup g { s.group g with state := .gap n })
  /-- A permit is stopped and retired (R150, R154). -/
  | scraps {s : State} (scope : k.clears = true) (i : SlotId) : State.Change k s (s.stopAndRetire i)
  | orphans {s : State} {made : SlotId → Bool} (scope : k.clears = true)
      (running : ∀ (i : SlotId) (p : Permit), made i = true → s.permit i = some p → p.state.running = true) :
      State.Change k s (s.mapSlots fun i x => if made i then { x with permit := x.permit.map Permit.orphaned } else x)
  | closes {s : State} (scope : k.clears = true) (p : Port) :
      State.Change k s (s.setPort p { s.port p with isOpen := false, owned := 0, attention := [] })

/-- Changes one after the other. -/
abbrev State.Via (k : Scope) : State → State → Prop := Relation.ReflTransGen (State.Change k)

/-- A happening as it takes its releases: changes that stop and end nothing, and between them others, each lot of them with the releases
that it makes (R94, R99). -/
inductive State.Whole (k : Scope) (s : State) : State → Prop
  | refl : State.Whole k s s
  | change {t u : State} (h : State.Whole k s t) (hc : State.Change .run t u) : State.Whole k s u
  | batch {t u : State} (h : State.Whole k s t) (hc : State.Via k t u) : State.Whole k s u.releaseGroups

theorem State.Change.via {k : Scope} {s t : State} (h : State.Change k s t) : State.Via k s t := .single h

theorem State.Change.of_run {k : Scope} {s t : State} (h : State.Change .run s t) : State.Change k s t := by
  cases h with
  | drawn => exact .drawn
  | raise i n => exact .raise i n
  | rerun h1 h2 h3 h4 h5 h6 h7 h8 => exact .rerun h1 h2 h3 h4 h5 h6 h7 h8
  | activate h1 h2 h3 h4 => exact .activate h1 h2 h3 h4
  | stop scope h1 h2 h3 h4 h5 => exact .stop (.inr (scope.resolve_left nofun)) h1 h2 h3 h4 h5
  | ends scope => cases scope
  | retire h1 h2 h3 => exact .retire h1 h2 h3
  | frees h => exact .frees h
  | gaps h n => exact .gaps h n
  | scraps scope => cases scope
  | orphans scope => cases scope
  | closes scope => cases scope

theorem State.Whole.trans {k : Scope} {s t u : State} (h : State.Whole k s t) (h' : State.Whole k t u) : State.Whole k s u := by
  induction h' with
  | refl => exact h
  | change _ hc ih => exact .change ih hc
  | batch _ hc ih => exact .batch ih hc

theorem State.Via.whole {k : Scope} {s t : State} (h : State.Via .run s t) : State.Whole k s t := by
  induction h with
  | refl => exact .refl
  | tail _ hc ih => exact .change ih hc

/-! ### Releases (R94) -/

theorem State.change_releaseGroup {k : Scope} {s : State} {g : GroupId} (h : s.holderReleased g = true) :
    State.Change k s (s.releaseGroup g) := by
  unfold State.releaseGroup
  dsimp only
  split
  · exact .frees (.inl h)
  · exact .gaps (.inl h) _

theorem State.via_foldl {α : Type} {k : Scope} {f : State → α → State} (hf : ∀ s a, State.Via k s (f s a)) (xs : List α) (s : State) :
    State.Via k s (xs.foldl f s) := by
  induction xs generalizing s with
  | nil => exact .refl
  | cons a rest ih => exact (hf s a).trans (ih _)

theorem State.via_releaseGroups {k : Scope} (s : State) : State.Via k s s.releaseGroups :=
  (State.Change.drawn.via).trans (State.via_foldl (fun s g => by
    split
    · next h => exact (State.change_releaseGroup h).via
    · exact .refl) _ _)

theorem State.Whole.via {k : Scope} {s t : State} (h : State.Whole k s t) : State.Via k s t := by
  induction h with
  | refl => exact .refl
  | change _ hc ih => exact ih.tail hc.of_run
  | batch _ hc ih => exact (ih.trans hc).trans (State.via_releaseGroups _)

/-! ### Runs (R51 to R57) -/

/-- An activation request overwrites the state and the remaining count. -/
theorem State.activate_setPermit (s : State) (i : SlotId) (p : Permit) (x : PState) (n : Nat) :
    (s.setPermit i { p with state := x, remaining := n }).activate i = (s.setPermit i p).activate i := by
  have hq : ∀ q : Permit, (s.setPermit i q).permit i = some q := fun q => by simp
  have hl : ∀ (q : Permit) ls, (s.setPermit i q).groupedLine ls = s.groupedLine ls := fun _ _ => rfl
  cases hg : s.groupedLine p.lines with
  | none =>
    rw [State.activate_ungrouped (hq p) hg, State.activate_ungrouped (hq { p with state := x, remaining := n }) hg,
      State.setPermit_setPermit, State.setPermit_setPermit]
    rfl
  | some gl =>
    obtain ⟨g, l⟩ := gl
    by_cases hnow : (s.group g).queue = [] ∧ ((s.group g).state = .free ∨ (s.group g).state = .held l)
    · rw [State.activate_admitted (hq p) hg hnow, State.activate_admitted (hq { p with state := x, remaining := n }) hg hnow]
      have hgr : ∀ q : Permit, (s.setPermit i q).setGroup g { (s.setPermit i q).group g with state := .held l } =
          (s.setGroup g { s.group g with state := .held l }).setPermit i q := fun _ => rfl
      rw [hgr, hgr, State.setPermit_setPermit, State.setPermit_setPermit]
      rfl
    · rw [State.activate_queued (hq p) hg hnow, State.activate_queued (hq { p with state := x, remaining := n }) hg hnow,
        State.enterBlocked_ofPermit (hq p), State.enterBlocked_ofPermit (hq { p with state := x, remaining := n })]
      have hgr : ∀ q : Permit, (s.setPermit i q).setGroup g
          { (s.setPermit i q).group g with queue := ((s.setPermit i q).group g).queue ++ [(s.setPermit i q).handle i] } =
          (s.setGroup g { s.group g with queue := (s.group g).queue ++ [s.handle i] }).setPermit i q := fun q => by
        rw [State.handle_setPermit]; rfl
      rw [hgr, hgr, State.setPermit_setPermit, State.setPermit_setPermit]

/-- An activation request of a permit that a record of any state and remaining count describes. -/
theorem State.via_activate {k : Scope} {s : State} {i : SlotId} {p : Permit} (here : s.permit i = some p)
    (before : p.state.inService = true) (grip : grips p.state = false) (started : p.state.running = true ∨ s.quenched = false)
    (n : Nat) : State.Via k s ((s.setPermit i { p with remaining := n }).activate i) := by
  have := State.activate_setPermit s i p p.state n
  rw [this, State.setPermit_self here]
  exact (State.Change.activate here before grip started).via

/-- A run begins from a state in service without claims and without a queue place: the wait, or an activation request (R51, R54). -/
theorem State.via_beginRun {k : Scope} {s : State} {i : SlotId} {p : Permit} (here : s.permit i = some p)
    (before : p.state.inService = true) (grip : grips p.state = false) (started : p.state.running = true ∨ s.quenched = false) :
    State.Via k s ((s.setPermit i p.clearCounters).beginRun i) := by
  have runs : p.Reruns p.clearCounters := rfl
  have hclear : State.Via k s (s.setPermit i p.clearCounters) :=
    (State.Change.rerun here runs Permit.inRanges_clearCounters before before .inl (fun h => h) (.inl rfl)).via
  have here' : (s.setPermit i p.clearCounters).permit i = some p.clearCounters := by simp
  refine hclear.trans ?_
  unfold State.beginRun
  simp only [here']
  split
  · exact (State.Change.activate here' before grip started).via
  · next hw =>
    have runs' : p.clearCounters.Reruns { p.clearCounters with state := .waiting, remaining := p.clearCounters.wait } := rfl
    refine (State.Change.rerun here' runs' (fun hr => ?_) before rfl (fun _ => started) (fun _ => rfl) (.inr ⟨grip, rfl⟩)).via
    have hwait := (Permit.inRanges_iff.mp hr).1.2.2.1
    exact Permit.inRanges_counting hr (by intro h; rw [show p.state = .ended from h] at before; cases before) rfl
      (Nat.pos_of_ne_zero hw) hwait nofun

/-- A BLOCKED permit that leaves its queue begins its run anew (R55). -/
theorem State.via_beginRun_blocked {k : Scope} {s : State} {i : SlotId} {p : Permit} (here : s.permit i = some p)
    (hs : p.state = .blocked) : State.Via k s (((s.leaveQueues (s.handle i)).setPermit i p.clearCounters).beginRun i) := by
  have hdetach : s.leaveQueues (s.handle i) = s.detach i := by simp [State.detach, here, hs]
  have hne : p.clearCounters.state ≠ .ended := by rw [show p.clearCounters.state = p.state from rfl, hs]; nofun
  have hstop : ∀ n : Nat, 1 ≤ n → (p.inRanges = true → n ≤ 65535) →
      State.Via k s ((s.detach i).setPermit i { p.clearCounters with state := .waiting, remaining := n }) := fun n h1 h2 =>
    have runs : p.Reruns { p.clearCounters with state := .waiting, remaining := n } := rfl
    (State.Change.stop (.inr (by rw [hs]; nofun)) here runs
      (fun hr => Permit.inRanges_counting (Permit.inRanges_clearCounters hr) hne rfl h1 (h2 hr) nofun) (by rw [hs]; rfl)
      (.inl rfl)).via
  have here' : ((s.detach i).setPermit i p.clearCounters).permit i = some p.clearCounters := by simp
  rw [hdetach]
  unfold State.beginRun
  simp only [here']
  split
  · rw [← State.activate_setPermit _ i p.clearCounters .waiting 1]
    exact (hstop 1 (Nat.le_refl _) fun _ => by omega).trans (State.Change.activate
      (p := { p.clearCounters with state := .waiting, remaining := 1 }) (by simp) rfl rfl (.inl rfl)).via
  · next hw =>
    rw [State.setPermit_setPermit]
    exact hstop p.wait (Nat.pos_of_ne_zero hw) fun hr => (Permit.inRanges_iff.mp hr).1.2.2.1

theorem State.whole_restart {k : Scope} (hk : k.stops = true) {s : State} {i : SlotId} {p : Permit} (here : s.permit i = some p) :
    State.Whole k s (s.restart i p) := by
  have hraise : ∀ {t : State}, State.Whole k s t → State.Whole k s (t.raise i .triggered) := fun h => h.change (.raise ..)
  unfold State.restart
  split
  case h_1 hs =>
    split
    · refine hraise (.change .refl (.rerun here rfl (fun hr => Permit.inRanges_restartedInPlace hr hs)
        (by rw [hs]; rfl) (by show p.state.inService = true; rw [hs]; rfl) .inl (fun h => h) (.inl rfl)))
    · next hw =>
      have hdetach : s.removeClaims p.lines = s.detach i := by simp [State.detach, here, hs]
      rw [hdetach]
      have runs : p.Reruns { p.clearCounters with state := .waiting, remaining := p.wait } := rfl
      refine hraise (.batch .refl (State.Change.stop (.inl hk) here runs (fun hr => ?_) (by rw [hs]; rfl) (.inl rfl)).via)
      exact Permit.inRanges_counting (Permit.inRanges_clearCounters hr) (by show p.state ≠ .ended; rw [hs]; nofun) rfl
        (Nat.pos_of_ne_zero hw) (Permit.inRanges_iff.mp hr).1.2.2.1 nofun
  case h_2 hs => exact hraise (State.via_beginRun_blocked here hs).whole
  case h_3 hs =>
    exact hraise (State.via_beginRun here (by rw [hs]; rfl) (by rw [hs]; rfl) (.inl (by rw [hs]; rfl))).whole
  case h_4 hs =>
    exact hraise (State.via_beginRun here (by rw [hs]; rfl) (by rw [hs]; rfl) (.inl (by rw [hs]; rfl))).whole
  all_goals exact .refl

/-- A trigger stops and starts, and ends nothing (R47). -/
theorem State.whole_takeTrigger {k : Scope} (hk : k.stops = true) (s : State) (i : SlotId) :
    State.Whole k s (s.takeTrigger i).2 := by
  have hraise : ∀ n, State.Whole k s (s.raise i n) := fun n => .change .refl (.raise i n)
  unfold State.takeTrigger
  split
  · exact .refl
  next p here =>
  split
  · exact .refl
  · exact .refl
  · exact hraise _
  next hs =>
    split
    · next hq =>
      refine .change (State.via_beginRun here (by rw [hs]; rfl) (by rw [hs]; rfl) (.inr ?_)).whole (.raise ..)
      simpa using (Bool.and_eq_true_iff.mp hq).2
    · exact hraise _
  all_goals
    split
    · exact State.whole_restart hk here
    · exact hraise _

/-! ### Ends (R38, R61 to R65, R107, R114) -/

theorem State.permit_enterEnded_ended {s : State} {i : SlotId} {r : EndReason} {q : Permit} (h : (s.enterEnded i r).permit i = some q) :
    q.state = .ended := by
  cases hp : s.permit i with
  | none => rw [State.enterEnded, hp] at h; cases hp.symm.trans h
  | some p => rw [State.permit_enterEnded r hp] at h; cases h; rfl

/-- An orphan that is not ACTIVE or BLOCKED is retired, and another permit left (R153). -/
theorem State.whole_retireIfOrphan {k : Scope} {s : State} {i : SlotId} (h : ∀ q, s.permit i = some q → grips q.state = false) :
    State.Whole k s (s.retireIfOrphan i) := by
  unfold State.retireIfOrphan
  split
  · exact .refl
  next p here =>
  split
  · exact .refl
  · next ho => exact .change .refl (.retire here ho (h p here))

theorem State.grips_raise {s : State} {i : SlotId} (n : Notice) (h : ∀ q, s.permit i = some q → grips q.state = false) :
    ∀ q, (s.raise i n).permit i = some q → grips q.state = false := by
  intro q hq
  rw [State.permit_raise_any, if_pos rfl] at hq
  obtain ⟨p, hp, rfl⟩ := Option.map_eq_some_iff.mp hq
  rw [Permit.state_raised]
  exact h p hp

theorem State.grips_enterEnded {s : State} {i : SlotId} {r : EndReason} :
    ∀ q, (s.enterEnded i r).permit i = some q → grips q.state = false := by
  intro q hq
  rw [State.permit_enterEnded_ended hq]; rfl

theorem State.via_endAll {k : Scope} (hk : k.endsPermits = true) (key : SlotId → Nat) (fuel : Nat) (work : List (SlotId × EndReason))
    (s : State) : State.Via k s (State.endAll key fuel work s) := by
  induction fuel generalizing work s with
  | zero => exact .refl
  | succ n ih =>
    unfold State.endAll
    split
    · exact .refl
    · next i r rest _ =>
      refine .trans ?_ (ih _ _)
      exact ((State.Change.ends hk i r).via.tail (.raise i .ended)).trans
        (State.whole_retireIfOrphan (State.grips_raise _ State.grips_enterEnded)).via

theorem State.via_endMany {k : Scope} (hk : k.endsPermits = true) (s : State) (work : List (SlotId × EndReason)) :
    State.Via k s (s.endMany work) := State.Change.drawn.via.trans (State.via_endAll hk ..)

theorem State.notBlocked_of_grips {s : State} {i : SlotId} (h : ∀ q, s.permit i = some q → grips q.state = false) : s.notBlocked i := by
  intro q hq hb
  have := h q hq
  rw [hb] at this
  cases this

/-- A permit that is ENDED and not retired is none that a release or a trigger reaches. -/
theorem State.grips_of_slot {s t : State} {i : SlotId} (hs : t.slot i = s.slot i) (h : ∀ q, s.permit i = some q → grips q.state = false) :
    ∀ q, t.permit i = some q → grips q.state = false := by
  intro q hq
  rw [State.permit, hs] at hq
  exact h q hq

theorem State.grips_releaseGroups {s : State} {i : SlotId} (h : ∀ q, s.permit i = some q → grips q.state = false) :
    ∀ q, s.releaseGroups.permit i = some q → grips q.state = false :=
  State.grips_of_slot (State.slot_releaseGroups (State.notBlocked_of_grips h)) h

theorem State.whole_endAbnormal {k : Scope} (hk : k.endsPermits = true) (s : State) (i : SlotId) (r : EndReason) :
    State.Whole k s (s.endAbnormal i r) := by
  unfold State.endAbnormal
  split
  · refine .trans (.change (.batch .refl (State.Change.ends hk i r).via) (.raise i .ended)) (State.whole_retireIfOrphan ?_)
    exact State.grips_raise _ (State.grips_releaseGroups State.grips_enterEnded)
  · exact .batch .refl (State.via_endMany hk ..)

/-- A permit out of service passes every trigger by. -/
theorem State.outOfService_takeTrigger {s : State} {i : SlotId} (j : SlotId)
    (h : ∀ q, s.permit i = some q → q.state = .ended) : ∀ q, (s.takeTrigger j).2.permit i = some q → q.state = .ended := by
  by_cases hij : j = i
  · subst hij
    have : (s.takeTrigger j).2 = s := by
      unfold State.takeTrigger
      cases hp : s.permit j with
      | none => rfl
      | some p => simp [h p hp]
    rw [this]; exact h
  · intro q hq
    rw [State.permit, State.slot_takeTrigger hij] at hq
    · exact h q hq
    · intro p hp hb; rw [h p hp] at hb; cases hb

theorem State.whole_foldl {α : Type} {k : Scope} {f : State → α → State} (hf : ∀ s a, State.Whole k s (f s a)) (xs : List α)
    (s : State) : State.Whole k s (xs.foldl f s) := by
  induction xs generalizing s with
  | nil => exact .refl
  | cons a rest ih => exact (hf s a).trans (ih _)

theorem foldl_keeps {α σ : Type} {P : σ → Prop} {f : σ → α → σ} (hf : ∀ s a, P s → P (f s a)) (xs : List α) {s : σ} (hs : P s) :
    P (xs.foldl f s) := by
  induction xs generalizing s with
  | nil => exact hs
  | cons a rest ih => exact ih (hf s a hs)

theorem State.whole_endNormal {k : Scope} (hk : k.endsPermits = true) (s : State) (i : SlotId) (r : EndReason) :
    State.Whole k s (s.endNormal i r) := by
  have hstops : k.stops = true := by cases k <;> simp_all [Scope.endsPermits, Scope.stops]
  have hended : ∀ q, ((s.enterEnded i r).releaseGroups.raise i .ended).drawn.permit i = some q → q.state = .ended := by
    intro q hq
    rw [State.permit_drawn, State.permit_raise_any, if_pos rfl] at hq
    obtain ⟨p, hp, rfl⟩ := Option.map_eq_some_iff.mp hq
    rw [State.permit, State.slot_releaseGroups (State.notBlocked_of_grips State.grips_enterEnded)] at hp
    rw [Permit.state_raised]
    exact State.permit_enterEnded_ended hp
  unfold State.endNormal
  dsimp only
  refine .trans (.trans (.change (.change (.batch .refl (State.Change.ends hk i r).via) (.raise i .ended)) .drawn)
    (State.whole_foldl (fun s j => State.whole_takeTrigger hstops s j) ..)) (State.whole_retireIfOrphan fun q hq => ?_)
  have := foldl_keeps (P := fun t : State => ∀ q, t.permit i = some q → q.state = .ended)
    (fun t j ht => State.outOfService_takeTrigger j ht) _ hended q hq
  rw [this]; rfl

/-! ### Locks, quench, teardown and CLEAR_TABLE (R107, R114, R150, R154) -/

theorem State.whole_endMany_release {k : Scope} (hk : k.endsPermits = true) (s : State) (work : List (SlotId × EndReason)) :
    State.Whole k s (s.endMany work).releaseGroups := .batch .refl (State.via_endMany hk s work)

theorem State.whole_clearAll (s : State) : State.Whole .table s s.clearAll :=
  .batch .refl (State.via_foldl (fun _ i => (State.Change.scraps rfl i).via) ..)

theorem State.whole_teardown (s : State) (p : Port) : State.Whole .table s (s.teardown p) := by
  unfold State.teardown
  refine .batch .refl (.tail (.trans ?_ (State.via_foldl (fun _ i => (State.Change.scraps rfl i).via) ..)) (.closes rfl p))
  have := State.Change.orphans (k := .table) (s := s)
    (made := fun i => decide (i ∈ s.slotsWith fun q => s.ownedBy p q && q.outlivesSession)) rfl (fun i q hi hq => by
      obtain ⟨q', hq', htest⟩ := State.mem_slotsWith.mp (of_decide_eq_true hi)
      rw [hq] at hq'; cases hq'
      have := (Bool.and_eq_true_iff.mp htest).2
      exact (Bool.and_eq_true_iff.mp this).1)
  simpa only [decide_eq_true_eq] using this.via

/-! ### Ticks, renewals and gaps (R25 to R36, R71, R95) -/

/-- An entry to ENDED overwrites the remaining count. -/
theorem State.enterEnded_setPermit (s : State) (i : SlotId) (p : Permit) (n : Nat) (r : EndReason) :
    (s.setPermit i { p with remaining := n }).enterEnded i r = (s.setPermit i p).enterEnded i r := by
  have hdetach : ∀ q : Permit, (s.setPermit i q).detach i = match q.state with
      | .active => (s.removeClaims q.lines).setPermit i q
      | .blocked => (s.leaveQueues (s.handle i)).setPermit i q
      | _ => s.setPermit i q := by
    intro q
    unfold State.detach
    simp only [State.permit_setPermit, if_true, State.handle_setPermit]
    cases q.state <;> rfl
  have hq : ∀ q : Permit, (s.setPermit i q).permit i = some q := fun q => by simp
  unfold State.enterEnded
  rw [hq p, hq { p with remaining := n }]
  dsimp only
  rw [hdetach p, hdetach { p with remaining := n }]
  cases p.state <;> simp only [State.setPermit_setPermit, State.handle_setPermit]

theorem State.successors_eq (s : State) (h : Handle) :
    s.successors h = allSlots.filter fun i => (s.permit i).any fun p => p.trigger = .chain (some h) := by
  unfold State.successors
  congr 1; funext i
  cases s.permit i <;> rfl

theorem State.waitingSuccessors_eq (s : State) (h : Handle) :
    s.waitingSuccessors h =
      (s.successors h).filter fun i => (s.permit i).any fun p => p.state.awaitingTrigger := by
  unfold State.waitingSuccessors
  congr 1; funext i
  cases s.permit i <;> rfl

theorem State.waitingSuccessors_setPermit (s : State) (i : SlotId) (p : Permit) (n : Nat) (h : Handle) :
    (s.setPermit i { p with remaining := n }).waitingSuccessors h = (s.setPermit i p).waitingSuccessors h := by
  have hany : ∀ (test : Permit → Bool), test { p with remaining := n } = test p → ∀ j,
      ((s.setPermit i { p with remaining := n }).permit j).any test = ((s.setPermit i p).permit j).any test := by
    intro test ht j
    rw [State.permit_setPermit, State.permit_setPermit]
    split
    · simp [ht]
    · rfl
  simp only [State.waitingSuccessors_eq, State.successors_eq]
  congr 1
  · funext j; exact hany (fun p => p.state.awaitingTrigger) rfl j
  · congr 1; funext j; exact hany (fun p => decide (p.trigger = .chain (some h))) rfl j

/-- The first of the ends of a happening that begins with one permit (R63). -/
theorem State.endAll_single (key : SlotId → Nat) (fuel : Nat) (i : SlotId) (r : EndReason) (s : State) :
    State.endAll key (fuel + 1) [(i, r)] s =
      State.endAll key fuel ((((s.enterEnded i r).raise i .ended).waitingSuccessors (s.handle i)).map fun j => (j, .upstream))
        (((s.enterEnded i r).raise i .ended).retireIfOrphan i) := by
  rw [State.endAll]
  simp [takeLeast]

theorem State.endNormal_setPermit (s : State) (i : SlotId) (p : Permit) (n : Nat) (r : EndReason) :
    (s.setPermit i { p with remaining := n }).endNormal i r = (s.setPermit i p).endNormal i r := by
  unfold State.endNormal
  simp only [State.enterEnded_setPermit, State.handle_setPermit]

theorem State.endAbnormal_setPermit (s : State) (i : SlotId) (p : Permit) (n : Nat) (r : EndReason) :
    (s.setPermit i { p with remaining := n }).endAbnormal i r = (s.setPermit i p).endAbnormal i r := by
  have hmany : (s.setPermit i { p with remaining := n }).endMany [(i, r)] = (s.setPermit i p).endMany [(i, r)] := by
    have hdrawn : ∀ q : Permit, (s.setPermit i q).drawn = s.drawn.setPermit i q := fun _ => rfl
    unfold State.endMany
    rw [hdrawn, hdrawn, State.endAll_single, State.endAll_single, State.enterEnded_setPermit, State.handle_setPermit,
      State.handle_setPermit]
    rfl
  unfold State.endAbnormal
  rw [hmany, State.enterEnded_setPermit, State.waitingSuccessors_setPermit, State.handle_setPermit, State.handle_setPermit]

section
variable {k : Scope} (hk : k.endsPermits = true) {s : State} {i : SlotId} {p : Permit} (here : s.permit i = some p)
include hk here

/-- A hold that ends, its last tick counted (R32, R33, R35). -/
theorem State.whole_holdEnd (hs : p.state = .active) : State.Whole k s ((s.setPermit i p.countHold).holdEnd i p.countHold) := by
  have hcount : State.Whole k s (s.setPermit i { p.countHold with remaining := 1 }) :=
    .change .refl (.rerun here rfl (fun hr => Permit.inRanges_countHold hr hs (Nat.le_refl _) (by omega)) (by rw [hs]; rfl)
      (by show p.state.inService = true; rw [hs]; rfl) .inl (fun h => h) (.inl rfl))
  have hnormal : State.Whole k s ((s.setPermit i p.countHold).endNormal i .completed) := by
    rw [← State.endNormal_setPermit s i p.countHold 1]
    exact hcount.trans (State.whole_endNormal hk ..)
  unfold State.holdEnd
  split
  · exact hnormal
  · next rest repeats hsh =>
    split
    · exact hnormal
    · have hstops : k.stops = true := by cases k <;> simp_all [Scope.endsPermits, Scope.stops]
      have hdetach : s.removeClaims p.lines = s.detach i := by simp [State.detach, here, hs]
      have hwrite : ((s.setPermit i p.countHold).removeClaims p.lines) = (s.removeClaims p.lines).setPermit i p.countHold := rfl
      have runs : p.Reruns { p.countHold with state := .resting, remaining := rest } := rfl
      unfold State.enterResting
      rw [show p.countHold.lines = p.lines from rfl, hwrite, State.setPermit_setPermit, hdetach]
      refine .batch .refl (State.Change.stop (.inl hstops) here runs (fun hr => ?_) (by rw [hs]; rfl) (.inr rfl)).via
      have hrest := (Permit.inRanges_iff.mp hr).2.2.2.1
      rw [show p.shape = .train rest repeats from hsh] at hrest
      simp only [Shape.countsInRange, Bool.and_eq_true, decide_eq_true_eq] at hrest
      exact Permit.inRanges_counting (Permit.inRanges_countHold hr hs (n := 1) (Nat.le_refl _) (by omega))
        (by show p.state ≠ .ended; rw [hs]; nofun) rfl hrest.1.1.1 hrest.1.1.2
        (fun _ => by show p.shape.isTrain = true; rw [show p.shape = .train rest repeats from hsh]; rfl)
  · rw [← State.endAbnormal_setPermit s i p.countHold 1]
    exact hcount.trans (State.whole_endAbnormal hk ..)

theorem State.whole_blockedTickAt (hs : p.state = .blocked) : State.Whole k s (s.blockedTickAt i p) := by
  unfold State.blockedTickAt
  split
  · exact .refl
  next b hb =>
  have haged : State.Whole k s (s.setPermit i { p with blockedAge := p.blockedAge + 1 }) :=
    .change .refl (.rerun here rfl (fun hr => Permit.inRanges_blockedAge hr hb) (by rw [hs]; rfl)
      (by show p.state.inService = true; rw [hs]; rfl) .inl (fun h => h) (.inl rfl))
  dsimp only
  split
  · exact haged.trans (State.whole_endAbnormal hk ..)
  · exact haged

end

/-- A tick that counts without ending its phase keeps the record in its ranges (R27). -/
theorem Permit.inRanges_counted {p : Permit} (hr : p.inRanges = true) (hs : countsPhase p.state = true) (h1 : 1 < p.remaining) :
    ({ p with remaining := p.remaining - 1 } : Permit).inRanges = true := by
  obtain ⟨-, hrem, -, -, -, hrest, -⟩ := Permit.inRanges_iff.mp hr
  have hmax := (hrem.1 hs).2
  exact Permit.inRanges_counting hr (by intro h; rw [h] at hs; cases hs) hs (by omega) (by omega) hrest

theorem PState.running_of_countsPhase {x : PState} (h : countsPhase x = true) : x.running = true := by
  cases x with
  | waiting | active | resting => rfl
  | idle | arming | armed | blocked | ended => cases h

theorem State.whole_permitTick {k : Scope} (hk : k.endsPermits = true) (s : State) (i : SlotId) :
    State.Whole k s (s.permitTick i) := by
  unfold State.permitTick
  split
  · exact .refl
  next p here =>
  have hcount : countsPhase p.state = true → grips p.state = false →
      State.Whole k s (if p.remaining ≤ 1 then (s.setPermit i { p with remaining := p.remaining - 1 }).activate i
        else s.setPermit i { p with remaining := p.remaining - 1 }) := by
    intro hs hg
    have hrun := PState.running_of_countsPhase hs
    have hin := PState.inService_of_running hrun
    split
    · exact (State.via_activate here hin hg (.inl hrun) _).whole
    · next h1 =>
      exact .change .refl (.rerun here rfl (fun hr => Permit.inRanges_counted hr hs (by omega)) hin hin .inl (fun h => h) (.inl rfl))
  split
  · exact .refl
  · exact .refl
  · exact .refl
  case h_4 hs =>
    exact .change .refl (.rerun here rfl (fun hr => Permit.inRanges_armed hr hs) (by rw [hs]; rfl) rfl nofun
      (by rw [hs]; nofun) (.inr ⟨by rw [hs]; rfl, rfl⟩))
  case h_5 hs => exact hcount (by rw [hs]; rfl) (by rw [hs]; rfl)
  case h_6 hs => exact hcount (by rw [hs]; rfl) (by rw [hs]; rfl)
  case h_7 hs =>
    dsimp only
    split
    · exact State.whole_holdEnd hk here hs
    · next h1 =>
      refine .change .refl (.rerun here rfl (fun hr => ?_) (by rw [hs]; rfl) (by show p.state.inService = true; rw [hs]; rfl) .inl
        (fun h => h) (.inl rfl))
      have hmax := ((Permit.inRanges_iff.mp hr).2.1.1 (by rw [hs]; rfl)).2
      exact Permit.inRanges_countHold (n := p.remaining - 1) hr hs (by omega) (by omega)
  case h_8 hs => exact State.whole_blockedTickAt hk here hs

theorem State.whole_takeRenewal {k : Scope} (hk : k.endsPermits = true) (s : State) (i : SlotId) :
    State.Whole k s (s.takeRenewal i) := by
  unfold State.takeRenewal
  split
  · exact .refl
  next p here =>
  split
  · next hact =>
    have hs : p.state = .active := by simpa using (Bool.and_eq_true_iff.mp hact).1
    split
    · exact State.whole_endAbnormal hk ..
    · exact .change .refl (.rerun here rfl (fun hr => Permit.inRanges_renewed hr hs) (by rw [hs]; rfl)
        (by show p.state.inService = true; rw [hs]; rfl) .inl (fun h => h) (.inl rfl))
  · exact .refl

theorem State.whole_gapTickAt {k : Scope} (s : State) (g : GroupId) : State.Whole k s (s.gapTickAt g) := by
  unfold State.gapTickAt
  dsimp only
  split
  · exact .refl
  · exact .refl
  · next r hg =>
    have hgap : s.mayFree g := .inr (by rw [hg]; rfl)
    split
    · exact .change .refl (.frees hgap)
    · exact .change .refl (.gaps hgap _)

end Sys2Proof.Machine
end

section
/-! SUPPORT. Every change is made of smallest changes, so what those keep every happening keeps. -/

namespace Sys2Proof.Machine

set_option Elab.async false

/-! ### Claims, groups and queues touch no permit -/

section
variable {k : Scope}

theorem State.beat_drawn (s : State) : State.Beat k s s.drawn :=
  .aside s.moves_drawn (fun _ => ⟨rfl, rfl⟩) rfl rfl rfl

theorem State.beat_setGroup (s : State) {g : GroupId} {x : Group} (h : x = { s.group g with state := x.state, queue := x.queue }) :
    State.Beat k s (s.setGroup g x) := .aside (s.moves_setGroup h) (fun _ => ⟨rfl, rfl⟩) rfl rfl rfl

theorem State.beat_addClaims (s : State) (ls : LineSet) : State.Beat k s (s.addClaims ls) := by
  refine .aside (s.moves_addClaims ls) (fun l => ?_) (by simp [State.addClaims]) (by simp [State.addClaims]) (by simp [State.addClaims])
  rw [State.addClaims, State.line_mapLines]
  split <;> exact ⟨rfl, rfl⟩

theorem State.beat_removeClaims (s : State) (ls : LineSet) : State.Beat k s (s.removeClaims ls) := by
  refine .aside (s.moves_removeClaims ls) (fun l => ?_) (by simp [State.removeClaims]) (by simp [State.removeClaims])
    (by simp [State.removeClaims])
  rw [State.removeClaims, State.line_mapLines]
  split <;> exact ⟨rfl, rfl⟩

theorem State.beat_leaveQueues (s : State) (h : Handle) : State.Beat k s (s.leaveQueues h) :=
  .aside (s.moves_leaveQueues h) (fun l => by simp [State.leaveQueues]) (by simp [State.leaveQueues])
    (by simp [State.leaveQueues]) (by simp [State.leaveQueues])

theorem State.beats_detach (s : State) (i : SlotId) : State.Beats k s (s.detach i) := by
  unfold State.detach
  split
  · exact .refl
  · split
    · exact .single (s.beat_removeClaims _)
    · exact .single (s.beat_leaveQueues _)
    all_goals exact .refl

@[simp] theorem State.permit_detach (s : State) (i j : SlotId) : (s.detach i).permit j = s.permit j := by
  simp only [State.permit, State.slot_detach]

@[simp] theorem State.handle_detach (s : State) (i j : SlotId) : (s.detach i).handle j = s.handle j := by
  simp only [State.handle, State.slot_detach]

/-! ### Entry to ACTIVE and to BLOCKED, and grants -/

theorem Permit.reruns_enteringActive (p : Permit) (b : Bool) : p.Reruns (p.enteringActive b) := rfl

theorem State.beats_enterActive {s : State} {i : SlotId} {p : Permit} (here : s.permit i = some p) (before : p.state.inService = true)
    (started : p.state.running = true ∨ s.quenched = false) (b : Bool) : State.Beats k s (s.enterActive i b) := by
  have hne : p.state ≠ .ended := by intro h; rw [h] at before; cases before
  have hentered : State.Beats k s ((s.setPermit i (p.enteringActive b)).addClaims p.lines) :=
    .tail (.single (.rerun here (p.reruns_enteringActive b) (fun hr => Permit.inRanges_enteringActive hr hne b) before rfl (fun _ => started) fun _ => rfl))
      (State.beat_addClaims _ _)
  unfold State.enterActive
  simp only [here]
  split
  · exact hentered.tail (.raise ..)
  · exact hentered

theorem State.beats_activate {s : State} {i : SlotId} {p : Permit} (here : s.permit i = some p) (before : p.state.inService = true)
    (started : p.state.running = true ∨ s.quenched = false) : State.Beats k s (s.activate i) := by
  have hne : p.state ≠ .ended := by intro h; rw [h] at before; cases before
  unfold State.activate
  simp only [here]
  split
  · exact State.beats_enterActive here before started false
  · next g l _ =>
    split
    · exact .trans (.single (s.beat_setGroup rfl)) (State.beats_enterActive (s := s.setGroup g _) here before started false)
    · rw [State.enterBlocked_ofPermit here]
      exact .tail (.tail (.single (s.beat_setGroup rfl)) (.rerun (s := s.setGroup g _)
        (p' := { p with state := .blocked, remaining := 0, blockedAge := 0 }) here rfl
        (fun hr => Permit.inRanges_enteringBlocked hr hne) before rfl (fun _ => started) fun _ => rfl)) (.raise ..)

/-- The permit that a queue entry names is BLOCKED (R37). -/
theorem State.blockedPermit_eq_some {s : State} {h : Handle} {p : Permit} :
    s.blockedPermit h = some p ↔ s.resolve h = some p ∧ p.state = .blocked := by
  unfold State.blockedPermit
  cases hr : s.resolve h with
  | none => simp
  | some q =>
    constructor
    · intro hq
      dsimp only at hq
      split at hq
      · next hb => cases hq; exact ⟨rfl, hb⟩
      · cases hq
    · rintro ⟨hq, hb⟩
      cases hq
      exact if_pos hb

/-- One step of a grant: the queue loses its head, which enters ACTIVE. -/
theorem State.beats_letIn {s : State} {g : GroupId} {x : Group} {h : Handle} {p : Permit} (hp : s.blockedPermit h = some p)
    (hx : x = { s.group g with state := x.state, queue := x.queue }) :
    State.Beats k s ((s.setGroup g x).enterActive h.slot true) := by
  obtain ⟨hr, hb⟩ := State.blockedPermit_eq_some.mp hp
  exact .trans (.single (s.beat_setGroup hx)) (State.beats_enterActive (s := s.setGroup g x) (p := p) (State.permit_of_resolve hr)
    (by rw [hb]; rfl) (.inl (by rw [hb]; rfl)) true)

theorem State.beats_grantFollowers (g : GroupId) (l : LineId) (q : List Handle) (s : State) :
    State.Beats k s (State.grantFollowers g l q s) := by
  induction q generalizing s with
  | nil => exact .refl
  | cons h rest ih =>
    unfold State.grantFollowers
    split
    · exact .refl
    · next p hp =>
      split
      · exact (State.beats_letIn hp rfl).trans (ih _)
      · exact .refl

theorem State.beats_grant (s : State) (g : GroupId) : State.Beats k s (s.grant g) := by
  unfold State.grant
  dsimp only
  split
  · exact .refl
  · split
    · exact .refl
    · next p hp =>
      split
      · exact .refl
      · exact (State.beats_letIn hp rfl).trans (State.beats_grantFollowers ..)

end

/-! ### Changes as smallest changes -/

theorem State.Beats.setPermit_detach {k : Scope} {s : State} {i : SlotId} {p p' : Permit} (here : s.permit i = some p)
    (runs : p.Reruns p') (ranges : p.inRanges = true → p'.inRanges = true) (before : p.state.running = true)
    (after : p'.state = .waiting ∨ p'.state = .resting) : State.Beats k s ((s.detach i).setPermit i p') := by
  have hrun : p'.state.running = true := by obtain h | h := after <;> rw [h] <;> rfl
  exact (s.beats_detach i).tail (.rerun (by rw [State.permit_detach]; exact here) runs ranges (PState.inService_of_running before)
    (PState.inService_of_running hrun) (fun _ => .inl before) fun _ => hrun)

theorem State.beats_enterEnded {k : Scope} (hk : k.endsPermits = true) (s : State) (i : SlotId) (r : EndReason) :
    State.Beats k s (s.enterEnded i r) := by
  unfold State.enterEnded
  split
  · exact .refl
  · next p here =>
    have := State.Beat.ends (k := k) (s := s.detach i) (i := i) (p := p) (p' := p.stoppedBy r) hk
      (by rw [State.permit_detach]; exact here) rfl rfl fun hr => Permit.inRanges_stoppedBy hr r
    rw [State.handle_detach] at this
    exact (s.beats_detach i).tail this

theorem State.Change.beats {k : Scope} {s t : State} (h : State.Change k s t) : State.Beats k s t := by
  cases h with
  | drawn => exact .single s.beat_drawn
  | raise i n => exact .single (.raise i n)
  | rerun here runs ranges before after started goesOn => exact .single (.rerun here runs ranges before after started goesOn)
  | activate here before _ started => exact State.beats_activate here before started
  | stop _ here runs ranges before after => exact .setPermit_detach here runs ranges before after
  | ends scope i r => exact State.beats_enterEnded scope s i r
  | retire here orphan => exact .single (.retire here (.inr orphan))
  | frees => exact .trans (.single (s.beat_setGroup rfl)) (State.beats_grant ..)
  | gaps => exact .single (s.beat_setGroup rfl)
  | scraps scope i =>
    unfold State.stopAndRetire
    cases hp : s.permit i with
    | none =>
      have : s.detach i = s := by simp [State.detach, hp]
      rw [this, State.retire, hp]
    | some p => exact (s.beats_detach i).tail (.retire (by rw [State.permit_detach]; exact hp) (.inl scope))
  | orphans scope running => exact .single (.orphans scope running)
  | closes scope p => exact .single (.closes scope p)

theorem State.Via.beats {k : Scope} {s t : State} (h : State.Via k s t) : State.Beats k s t := by
  induction h with
  | refl => exact .refl
  | tail _ hc ih => exact ih.trans hc.beats

theorem State.Whole.beats {k : Scope} {s t : State} (h : State.Whole k s t) : State.Beats k s t := h.via.beats

end Sys2Proof.Machine
end

section
/-! SUPPORT. Claims, groups and queues (R84, R91, R97): what a change does to the claims that permits hold and to their places in the
queues, and that the laws of both are kept. -/

namespace Sys2Proof.Machine

set_option Elab.async false

/-! ### What permits hold -/

/-- The permit in a slot claims a line: it is ACTIVE and names the line. -/
def State.claimsAt (s : State) (i : SlotId) (l : LineId) : Bool := (s.permit i).any fun p => p.state = .active && p.names l

/-- The handle and the lines of the permit in a slot, when it is BLOCKED. -/
def State.waitingAt (s : State) (i : SlotId) : Option (Handle × LineSet) :=
  (s.permit i).bind fun p => if p.state = .blocked then some (s.handle i, p.lines) else none

theorem State.claimants_eq (s : State) (l : LineId) : s.claimants l = allSlots.filter (s.claimsAt · l) := by
  rw [State.claimants, State.slotsWith_eq]; rfl

theorem State.claimLaw_iff {s : State} : s.ClaimLaw ↔ ∀ l, (s.line l).claims = (allSlots.filter (s.claimsAt · l)).length := by
  simp only [State.ClaimLaw, State.claimants_eq]

theorem State.claimsAt_of_permit {s : State} {i : SlotId} {p : Permit} (here : s.permit i = some p) (l : LineId) :
    s.claimsAt i l = (decide (p.state = .active) && p.names l) := by
  rw [State.claimsAt, here, Option.any_some]

theorem State.waitingAt_of_permit {s : State} {i : SlotId} {p : Permit} (here : s.permit i = some p) :
    s.waitingAt i = if p.state = .blocked then some (s.handle i, p.lines) else none := by
  rw [State.waitingAt, here, Option.bind_some]

theorem State.waitingAt_eq_some {s : State} {i : SlotId} {w : Handle × LineSet} : s.waitingAt i = some w ↔
    ∃ p, s.permit i = some p ∧ p.state = .blocked ∧ w = (s.handle i, p.lines) := by
  unfold State.waitingAt
  cases hp : s.permit i with
  | none => simp
  | some p =>
    by_cases hb : p.state = .blocked
    · simp [hb, eq_comm]
    · simp [hb]

/-- A set of lines holds a member of a group. -/
def State.meets (s : State) (g : GroupId) (ls : LineSet) : Prop := ∃ l : LineId, ls.getLsbD l.val = true ∧ (s.group g).has l = true

theorem State.memberLine_isSome {s : State} {g : GroupId} {p : Permit} : (s.memberLine g p).isSome = true ↔ s.meets g p.lines := by
  rw [State.memberLine, List.find?_isSome]
  simp only [Bool.and_eq_true, State.meets, Permit.names]
  exact ⟨fun ⟨l, _, h⟩ => ⟨l, h⟩, fun ⟨l, h⟩ => ⟨l, List.mem_finRange l, h⟩⟩

/-- The BLOCKED permit that a handle names is the one that waits in its slot (R31). -/
theorem State.blockedOn_iff {s : State} {g : GroupId} {h : Handle} :
    s.blockedOn g h = true ↔ ∃ ls, s.waitingAt h.slot = some (h, ls) ∧ s.meets g ls := by
  unfold State.blockedOn
  constructor
  · intro hb
    split at hb
    · cases hb
    · next p hp =>
      obtain ⟨hr, hst⟩ := State.blockedPermit_eq_some.mp hp
      obtain ⟨hh, hpe⟩ := State.resolve_eq_some.mp hr
      exact ⟨p.lines, State.waitingAt_eq_some.mpr ⟨p, hpe, hst, by rw [← hh]⟩, State.memberLine_isSome.mp hb⟩
  · rintro ⟨ls, hw, hm⟩
    obtain ⟨p, hpe, hst, heq⟩ := State.waitingAt_eq_some.mp hw
    obtain ⟨hh, rfl⟩ := Prod.mk.injEq .. ▸ heq
    have hr : s.resolve h = some p := State.resolve_eq_some.mpr ⟨hh, hpe⟩
    rw [State.blockedPermit_eq_some.mpr ⟨hr, hst⟩]
    exact State.memberLine_isSome.mpr hm

/-! ### Grouped lines (R13, R29, R88) -/

theorem State.groupOf_isSome {s : State} {l : LineId} : (s.groupOf l).isSome = true ↔ ∃ g, (s.group g).has l = true := by
  rw [State.groupOf, List.find?_isSome]
  exact ⟨fun ⟨g, _, h⟩ => ⟨g, h⟩, fun ⟨g, h⟩ => ⟨g, List.mem_finRange g, h⟩⟩

theorem State.has_of_groupOf {s : State} {l : LineId} {g : GroupId} (h : s.groupOf l = some g) : (s.group g).has l = true :=
  List.find?_some (p := fun g => (s.group g).has l) h

/-- A permit that may activate names no two grouped lines, so its grouped line and its group are one (R23, R88). -/
theorem State.grouped_unique {s : State} (hm : s.MembersLaw) {ls : LineSet} (hc : s.groupedCount ls ≤ 1) {g g' : GroupId}
    {l l' : LineId} (hl : ls.getLsbD l.val = true) (hg : (s.group g).has l = true) (hl' : ls.getLsbD l'.val = true)
    (hg' : (s.group g').has l' = true) : g = g' ∧ l = l' := by
  have hmem : ∀ {x : LineId} {y : GroupId}, ls.getLsbD x.val = true → (s.group y).has x = true →
      x ∈ allLines.filter fun l => ls.getLsbD l.val && (s.groupOf l).isSome := fun hx hy =>
    List.mem_filter.mpr ⟨List.mem_finRange _, Bool.and_eq_true_iff.mpr ⟨hx, State.groupOf_isSome.mpr ⟨_, hy⟩⟩⟩
  have heq : l = l' := by
    have h1 := hmem hl hg
    have h2 := hmem hl' hg'
    unfold State.groupedCount at hc
    match hf : allLines.filter fun l => ls.getLsbD l.val && (s.groupOf l).isSome with
    | [] => rw [hf] at h1; cases h1
    | [x] => rw [hf, List.mem_singleton] at h1 h2; rw [h1, h2]
    | _ :: _ :: _ => rw [hf] at hc; simp only [List.length_cons] at hc; omega
  subst heq
  exact ⟨hm g g' l hg hg', rfl⟩

theorem State.groupedLine_eq_some {s : State} {ls : LineSet} {g : GroupId} {l : LineId} (h : s.groupedLine ls = some (g, l)) :
    ls.getLsbD l.val = true ∧ (s.group g).has l = true := by
  obtain ⟨l', -, hl'⟩ := List.exists_of_findSome?_eq_some h
  split at hl'
  · next hn =>
    obtain ⟨g', hg', heq⟩ := Option.map_eq_some_iff.mp hl'
    cases heq
    exact ⟨hn, State.has_of_groupOf hg'⟩
  · cases hl'

theorem State.groupedLine_isSome {s : State} {ls : LineSet} : (s.groupedLine ls).isSome = true ↔ ∃ g, s.meets g ls := by
  rw [State.groupedLine, List.findSome?_isSome_iff]
  constructor
  · rintro ⟨l, -, hl⟩
    split at hl
    · next hn =>
      rw [Option.isSome_map, State.groupOf_isSome] at hl
      obtain ⟨g, hg⟩ := hl
      exact ⟨g, l, hn, hg⟩
    · cases hl
  · rintro ⟨g, l, hn, hg⟩
    refine ⟨l, List.mem_finRange l, ?_⟩
    rw [if_pos hn, Option.isSome_map, State.groupOf_isSome]
    exact ⟨g, hg⟩

theorem State.memberLine_eq_some {s : State} {g : GroupId} {p : Permit} {l : LineId} (h : s.memberLine g p = some l) :
    p.names l = true ∧ (s.group g).has l = true := by
  have := List.find?_some (p := fun l => p.names l && (s.group g).has l) h
  exact Bool.and_eq_true_iff.mp this

/-! ### The laws, as changes keep them -/

/-- A group's claims, as a happening in course leaves them: only the holder line of a HELD group has claims, and it is a member (R91). -/
def State.claimsBounded (s : State) (g : GroupId) : Prop :=
  (∀ l, (s.group g).has l = true → 0 < (s.line l).claims → (s.group g).state = .held l) ∧
    ∀ l, (s.group g).state = .held l → (s.group g).has l = true

/-- Every HELD group's holder line has a claim: every release has been taken (R91, R94). -/
def State.HoldersClaim (s : State) : Prop := ∀ (g : GroupId) (l : LineId), (s.group g).state = .held l → 0 < (s.line l).claims

/-- The exclusion groups' law as a happening in course leaves it. -/
structure State.GroupsHold (s : State) : Prop where
  claim : s.ClaimLaw
  members : s.MembersLaw
  grouped : s.GroupedLaw
  bounded : ∀ g, s.claimsBounded g

theorem State.claimsAllowed_iff {s : State} {g : GroupId} : s.claimsAllowed g ↔
    s.claimsBounded g ∧ ∀ l, (s.group g).state = .held l → 0 < (s.line l).claims := by
  unfold State.claimsAllowed State.claimsBounded
  cases hg : (s.group g).state with
  | free => simp only [reduceCtorEq, imp_false, Nat.not_lt, Nat.le_zero_eq, IsEmpty.forall_iff, implies_true, and_true]
  | gap n => simp only [reduceCtorEq, imp_false, Nat.not_lt, Nat.le_zero_eq, IsEmpty.forall_iff, implies_true, and_true]
  | held h =>
    simp only [GroupState.held.injEq, forall_eq']
    constructor
    · rintro ⟨hh, hc, ho⟩
      refine ⟨⟨fun l hl hpos => ?_, hh⟩, hc⟩
      by_contra hne
      exact absurd (ho l hl (Ne.symm hne)) (Nat.ne_of_gt hpos)
    · rintro ⟨⟨ho, hh⟩, hc⟩
      refine ⟨hh, hc, fun l hl hne => ?_⟩
      by_contra hpos
      exact hne (ho l hl (Nat.pos_of_ne_zero hpos)).symm

theorem State.exclusionLaw_iff {s : State} : s.ExclusionLaw ↔ s.LevelLaw ∧ s.GroupsHold ∧ s.HoldersClaim := by
  constructor
  · rintro ⟨hc, hl, hm, hg, ha⟩
    exact ⟨hl, ⟨hc, hm, hg, fun g => (State.claimsAllowed_iff.mp (ha g)).1⟩, fun g => (State.claimsAllowed_iff.mp (ha g)).2⟩
  · rintro ⟨hl, ⟨hc, hm, hg, hb⟩, hh⟩
    exact ⟨hc, hl, hm, hg, fun g => State.claimsAllowed_iff.mpr ⟨hb g, hh g⟩⟩

theorem State.blockedLaw_iff {s : State} : s.BlockedLaw ↔ ∀ i w, s.waitingAt i = some w → ∃ g, s.meets g w.2 := by
  constructor
  · intro h i w hw
    obtain ⟨p, hp, hb, rfl⟩ := State.waitingAt_eq_some.mp hw
    exact State.groupedLine_isSome.mp (h i p hp hb)
  · intro h i p hp hb
    exact State.groupedLine_isSome.mpr (h i _ (State.waitingAt_eq_some.mpr ⟨p, hp, hb, rfl⟩))

/-- The wait queues' law but for what a FREE group's queue holds. -/
def State.QueuesMatch (s : State) : Prop :=
  ∀ g : GroupId, (s.group g).queue.Nodup ∧ ∀ h : Handle, h ∈ (s.group g).queue ↔ s.blockedOn g h = true

/-- A FREE group has no queue (R91). -/
def State.FreeIsEmpty (s : State) : Prop := ∀ g : GroupId, (s.group g).state = .free → (s.group g).queue = []

theorem State.queueLaw_iff {s : State} : s.QueueLaw ↔ s.QueuesMatch ∧ s.FreeIsEmpty :=
  ⟨fun h => ⟨fun g => ⟨(h g).1, (h g).2.1⟩, fun g => (h g).2.2⟩, fun h g => ⟨(h.1 g).1, (h.1 g).2, h.2 g⟩⟩

/-! ### Counting claims -/

theorem length_filter_eq_sum (f : SlotId → Bool) : (allSlots.filter f).length = ∑ i : SlotId, (f i).toNat := by
  rw [← List.countP_eq_length_filter, allSlots, ← List.sum_ofFn, List.ofFn_eq_map]
  induction List.finRange 48 with
  | nil => rfl
  | cons i rest ih => rw [List.countP_cons, ih, List.map_cons, List.sum_cons]; cases f i <;> simp [Nat.add_comm]

/-- A count of slots after a change at one of them. -/
theorem length_filter_change {f g : SlotId → Bool} {i : SlotId} (h : ∀ j, j ≠ i → g j = f j) :
    (allSlots.filter g).length + (f i).toNat = (allSlots.filter f).length + (g i).toNat := by
  rw [length_filter_eq_sum, length_filter_eq_sum, ← Finset.add_sum_erase _ _ (Finset.mem_univ i),
    ← Finset.add_sum_erase Finset.univ (fun j => (f j).toNat) (Finset.mem_univ i)]
  have : ∑ j ∈ Finset.univ.erase i, (g j).toNat = ∑ j ∈ Finset.univ.erase i, (f j).toNat :=
    Finset.sum_congr rfl fun j hj => by rw [h j (Finset.ne_of_mem_erase hj)]
  omega

/-! ### Changes that touch no claim and no queue -/

/-- Claims, levels of waiting, and groups are as they were. -/
structure State.Steady (s t : State) : Prop where
  claimsAt : ∀ i l, t.claimsAt i l = s.claimsAt i l
  waitingAt : ∀ i, t.waitingAt i = s.waitingAt i
  claims : ∀ l, (t.line l).claims = (s.line l).claims
  group : ∀ g, t.group g = s.group g

/-- The permits hold what they held where each has its state, its lines and its handle, or neither claims nor waits. -/
theorem State.Steady.of_permits {s t : State} (hl : ∀ l, t.line l = s.line l) (hg : ∀ g, t.group g = s.group g)
    (hp : ∀ i, ((t.permit i).map (fun p => (p.state, p.lines)) = (s.permit i).map (fun p => (p.state, p.lines)) ∧
        t.handle i = s.handle i) ∨
      ((∀ p, t.permit i = some p → grips p.state = false) ∧ ∀ p, s.permit i = some p → grips p.state = false)) : s.Steady t := by
  have hno : ∀ {u : State} {i : SlotId}, (∀ p, u.permit i = some p → grips p.state = false) →
      (∀ l, u.claimsAt i l = false) ∧ u.waitingAt i = none := by
    intro u i hu
    unfold State.claimsAt State.waitingAt
    cases hpe : u.permit i with
    | none => exact ⟨fun _ => rfl, rfl⟩
    | some p =>
      have := hu p hpe
      simp only [grips, Bool.or_eq_false_iff, decide_eq_false_iff_not] at this
      simp [this]
  refine ⟨fun i l => ?_, fun i => ?_, fun l => by rw [hl], hg⟩
  · obtain ⟨h, -⟩ | ⟨h1, h2⟩ := hp i
    · unfold State.claimsAt Permit.names
      cases ht : t.permit i <;> cases hs : s.permit i <;> simp_all
    · rw [(hno h1).1, (hno h2).1]
  · obtain ⟨h, hh⟩ | ⟨h1, h2⟩ := hp i
    · unfold State.waitingAt
      rw [hh]
      cases ht : t.permit i <;> cases hs : s.permit i <;> simp_all
    · rw [(hno h1).2, (hno h2).2]

section
variable {s t : State} (h : s.Steady t)
include h

theorem State.Steady.claimLaw (hl : s.ClaimLaw) : t.ClaimLaw := by
  rw [State.claimLaw_iff] at hl ⊢
  simpa only [h.claims, h.claimsAt] using hl

theorem State.Steady.claimsBounded {g : GroupId} (hb : s.claimsBounded g) : t.claimsBounded g := by
  simpa only [State.claimsBounded, h.group, h.claims] using hb

theorem State.Steady.holdersClaim (hb : s.HoldersClaim) : t.HoldersClaim := by
  simpa only [State.HoldersClaim, h.group, h.claims] using hb

theorem State.Steady.blockedLaw (hb : s.BlockedLaw) : t.BlockedLaw := by
  rw [State.blockedLaw_iff] at hb ⊢
  simpa only [h.waitingAt, State.meets, h.group] using hb

theorem State.Steady.blockedOn (g : GroupId) (x : Handle) : t.blockedOn g x = s.blockedOn g x := by
  rw [Bool.eq_iff_iff, State.blockedOn_iff, State.blockedOn_iff]
  simp only [h.waitingAt, State.meets, h.group]

theorem State.Steady.queueLaw (hq : s.QueueLaw) : t.QueueLaw := by
  intro g
  simpa only [h.group, h.blockedOn] using hq g

end

/-! ### A permit lets go -/

/-- The permit in a slot claims no more and waits no more: its claims are off its lines, its place off its queue (R38, R150). -/
structure State.LetsGo (s t : State) (i : SlotId) : Prop where
  claimsAt : ∀ j l, t.claimsAt j l = (decide (j ≠ i) && s.claimsAt j l)
  waitingAt : ∀ j, t.waitingAt j = if j = i then none else s.waitingAt j
  claims : ∀ l, (t.line l).claims = (s.line l).claims - (s.claimsAt i l).toNat
  group : ∀ g, t.group g =
    { s.group g with queue := (s.group g).queue.filter fun h => (s.waitingAt i).all fun w => decide (h ≠ w.1) }

theorem State.claimLaw_of_change {s t : State} {i : SlotId} (hl : s.ClaimLaw)
    (hj : ∀ j l, j ≠ i → t.claimsAt j l = s.claimsAt j l)
    (hc : ∀ l, (t.line l).claims + (s.claimsAt i l).toNat = (s.line l).claims + (t.claimsAt i l).toNat) : t.ClaimLaw := by
  rw [State.claimLaw_iff] at hl ⊢
  intro l
  have := length_filter_change (f := (s.claimsAt · l)) (g := (t.claimsAt · l)) (i := i) fun j hne => hj j l hne
  have h1 := hl l
  have h2 := hc l
  omega

/-- A permit that claims a line is one of those its claim count counts (R84). -/
theorem State.ClaimLaw.le {s : State} (hl : s.ClaimLaw) (i : SlotId) (l : LineId) : (s.claimsAt i l).toNat ≤ (s.line l).claims := by
  rw [State.claimLaw_iff] at hl
  rw [hl l]
  cases hc : s.claimsAt i l with
  | false => exact Nat.zero_le _
  | true => exact List.length_pos_of_mem (List.mem_filter.mpr ⟨List.mem_finRange i, hc⟩)

section
variable {s t : State} {i : SlotId} (h : s.LetsGo t i)
include h

theorem State.LetsGo.claimLaw (hl : s.ClaimLaw) : t.ClaimLaw := by
  refine State.claimLaw_of_change (i := i) hl (fun j l hne => by simp [h.claimsAt, hne]) fun l => ?_
  have := hl.le i l
  rw [h.claims, h.claimsAt]
  simp only [ne_eq, not_true_eq_false, decide_false, Bool.false_and, Bool.toNat_false]
  omega

theorem State.LetsGo.claimsBounded {g : GroupId} (hb : s.claimsBounded g) : t.claimsBounded g := by
  obtain ⟨hpos, hheld⟩ := hb
  unfold State.claimsBounded
  rw [h.group]
  refine ⟨fun l hl hp => hpos l hl ?_, hheld⟩
  rw [h.claims] at hp
  omega

theorem State.LetsGo.meets (g : GroupId) (ls : LineSet) : t.meets g ls ↔ s.meets g ls := by
  unfold State.meets; rw [h.group]; rfl

theorem State.LetsGo.blockedLaw (hb : s.BlockedLaw) : t.BlockedLaw := by
  rw [State.blockedLaw_iff] at hb ⊢
  intro j w hw
  rw [h.waitingAt] at hw
  split at hw
  · cases hw
  · simpa only [h.meets] using hb j w hw

theorem State.LetsGo.queuesMatch (hq : s.QueuesMatch) : t.QueuesMatch := by
  intro g
  obtain ⟨hnd, hmem⟩ := hq g
  rw [h.group]
  refine ⟨hnd.filter _, fun x => ?_⟩
  rw [List.mem_filter, hmem x, State.blockedOn_iff, State.blockedOn_iff]
  simp only [h.meets, h.waitingAt]
  constructor
  · rintro ⟨⟨ls, hw, hm⟩, hall⟩
    refine ⟨ls, ?_, hm⟩
    split
    · next hx =>
      rw [hx] at hw
      simp [hw] at hall
    · exact hw
  · rintro ⟨ls, hw, hm⟩
    split at hw
    · cases hw
    · next hx =>
      refine ⟨⟨ls, hw, hm⟩, ?_⟩
      cases hi : s.waitingAt i with
      | none => rfl
      | some w =>
        obtain ⟨p, -, -, rfl⟩ := State.waitingAt_eq_some.mp hi
        simp only [Option.all_some, decide_eq_true_eq]
        rintro rfl
        exact hx rfl

theorem State.LetsGo.freeIsEmpty (hf : s.FreeIsEmpty) : t.FreeIsEmpty := by
  intro g hg
  rw [h.group] at hg ⊢
  show (s.group g).queue.filter _ = []
  rw [hf g hg]; rfl

/-- A permit that is not ACTIVE leaves every claim where it was. -/
theorem State.LetsGo.holdersClaim (hc : ∀ l, s.claimsAt i l = false) (hh : s.HoldersClaim) : t.HoldersClaim := by
  intro g l hg
  rw [h.group] at hg
  rw [h.claims, hc]
  exact hh g l hg

end

/-- What a permit gives up by leaving its state (R38). -/
theorem State.claims_detach (s : State) (i : SlotId) (l : LineId) :
    ((s.detach i).line l).claims = (s.line l).claims - (s.claimsAt i l).toNat := by
  unfold State.detach State.claimsAt
  cases hp : s.permit i with
  | none => rfl
  | some p =>
    have hrem : ((s.removeClaims p.lines).line l).claims = (s.line l).claims - (p.names l).toNat := by
      rw [State.removeClaims, State.line_mapLines]
      cases hn : p.lines.getLsbD l.val
      · rw [Permit.names, hn, if_neg (by simp)]; rfl
      · rw [Permit.names, hn, if_pos rfl]; rfl
    cases hs : p.state <;> simp [hrem, hs, State.leaveQueues]

theorem State.group_detach (s : State) (i : SlotId) (g : GroupId) : (s.detach i).group g =
    { s.group g with queue := (s.group g).queue.filter fun h => (s.waitingAt i).all fun w => decide (h ≠ w.1) } := by
  unfold State.detach State.waitingAt
  cases hp : s.permit i with
  | none => simp
  | some p => cases hs : p.state <;> simp [State.removeClaims, State.leaveQueues, hs]

/-- A permit that leaves its state and is written, or retired, without claims and without a place lets go. -/
theorem State.LetsGo.of_detach {s t : State} {i : SlotId} (hl : ∀ l, t.line l = (s.detach i).line l)
    (hg : ∀ g, t.group g = (s.detach i).group g)
    (hi : ∀ p, t.permit i = some p → grips p.state = false)
    (hj : ∀ j, j ≠ i → (t.permit j).map (fun p => (p.state, p.lines)) = (s.permit j).map (fun p => (p.state, p.lines)) ∧
      t.handle j = s.handle j) : s.LetsGo t i := by
  have hself : (∀ l, t.claimsAt i l = false) ∧ t.waitingAt i = none := by
    unfold State.claimsAt State.waitingAt
    cases hp : t.permit i with
    | none => exact ⟨fun _ => rfl, rfl⟩
    | some p =>
      have := hi p hp
      simp only [grips, Bool.or_eq_false_iff, decide_eq_false_iff_not] at this
      simp [this]
  refine ⟨fun j l => ?_, fun j => ?_, fun l => by rw [hl, State.claims_detach], fun g => by rw [hg, State.group_detach]⟩
  · by_cases hne : j = i
    · subst hne; simp [hself.1]
    · have := (hj j hne).1
      unfold State.claimsAt Permit.names
      cases ht : t.permit j <;> cases hs : s.permit j <;> simp_all
  · split
    · next he => rw [he]; exact hself.2
    · next hne =>
      obtain ⟨h1, h2⟩ := hj j hne
      unfold State.waitingAt
      rw [h2]
      cases ht : t.permit j <;> cases hs : s.permit j <;> simp_all

theorem State.letsGo_enterEnded {s : State} {i : SlotId} {p : Permit} (here : s.permit i = some p) (r : EndReason) :
    s.LetsGo (s.enterEnded i r) i := by
  have hline : ∀ l, (s.enterEnded i r).line l = (s.detach i).line l := fun l => by simp [State.enterEnded, here]
  have hgroup : ∀ g, (s.enterEnded i r).group g = (s.detach i).group g := fun g => by simp [State.enterEnded, here]
  refine .of_detach hline hgroup State.grips_enterEnded fun j hne => ?_
  have := State.slot_enterEnded (s := s) r (Ne.symm hne)
  simp only [State.permit, State.handle, this, and_self]

theorem State.letsGo_setPermit {s : State} {i : SlotId} {p' : Permit} (h : grips p'.state = false) :
    s.LetsGo ((s.detach i).setPermit i p') i := by
  refine .of_detach (fun _ => rfl) (fun _ => rfl) (fun q hq => ?_) fun j hne => ?_
  · rw [State.permit_setPermit, if_pos rfl] at hq; cases hq; exact h
  · simp [Ne.symm hne]

theorem Permit.lines_dropReference (p : Permit) (h : Handle) : (p.dropReference h).lines = p.lines := by
  unfold Permit.dropReference; split <;> rfl

theorem State.letsGo_stopAndRetire {s : State} {i : SlotId} {p : Permit} (here : s.permit i = some p) :
    s.LetsGo (s.stopAndRetire i) i := by
  have here' : (s.detach i).permit i = some p := by rw [State.permit_detach, here]
  refine .of_detach (fun l => State.line_retire ..) (fun g => State.group_retire ..) (fun q hq => ?_) fun j hne => ?_
  · rw [State.stopAndRetire, State.permit_retire_any here', if_pos rfl] at hq; cases hq
  · constructor
    · rw [State.stopAndRetire, State.permit_retire_any here', if_neg (Ne.symm hne), State.permit_detach, Option.map_map]
      congr 1; funext q
      simp [Permit.state_dropReference, Permit.lines_dropReference]
    · simp only [State.stopAndRetire, State.handle, State.gen_retire_of_ne (Ne.symm hne), State.slot_detach]

/-! ### A permit enters ACTIVE -/

/-- The permit in a slot enters ACTIVE with its lines (R30). -/
structure State.Claims (s t : State) (i : SlotId) (ls : LineSet) : Prop where
  claimsAt : ∀ j l, t.claimsAt j l = if j = i then ls.getLsbD l.val else s.claimsAt j l
  waitingAt : ∀ j, t.waitingAt j = if j = i then none else s.waitingAt j
  claims : ∀ l, (t.line l).claims = (s.line l).claims + (ls.getLsbD l.val).toNat
  group : ∀ g, t.group g = s.group g

theorem State.steady_raise (s : State) (i : SlotId) (n : Notice) : s.Steady (s.raise i n) := by
  refine .of_permits (s.line_raise i n) (s.group_raise i n) fun j => .inl ⟨?_, State.handle_raise ..⟩
  rw [State.permit_raise_any]
  split
  · cases s.permit j <;> simp [Permit.state_raised, (Permit.evolves_raised true _ n).lines]
  · rfl

theorem State.claims_enterActive {s : State} {i : SlotId} {p : Permit} (here : s.permit i = some p) (b : Bool) :
    s.Claims (s.enterActive i b) i p.lines := by
  have hentered : s.Claims ((s.setPermit i (p.enteringActive b)).addClaims p.lines) i p.lines := by
    have hper : ∀ j, ((s.setPermit i (p.enteringActive b)).addClaims p.lines).permit j =
        if i = j then some (p.enteringActive b) else s.permit j := fun j => by simp [State.addClaims]
    have hhan : ∀ j, ((s.setPermit i (p.enteringActive b)).addClaims p.lines).handle j = s.handle j := fun j => by
      simp [State.addClaims]
    refine ⟨fun j l => ?_, fun j => ?_, fun l => ?_, fun g => by simp [State.addClaims]⟩
    · rw [State.claimsAt, hper]
      by_cases hij : i = j
      · subst hij; simp [Permit.enteringActive, Permit.names]
      · rw [if_neg hij, if_neg (Ne.symm hij)]; rfl
    · rw [State.waitingAt, hper, hhan]
      by_cases hij : i = j
      · subst hij; simp [Permit.enteringActive]
      · rw [if_neg hij, if_neg (Ne.symm hij)]; rfl
    · rw [State.addClaims, State.line_mapLines]
      cases hn : p.lines.getLsbD l.val <;> simp
  unfold State.enterActive
  simp only [here]
  split
  · have hr := State.steady_raise ((s.setPermit i (p.enteringActive b)).addClaims p.lines) i .granted
    exact ⟨fun j l => by rw [hr.claimsAt, hentered.claimsAt], fun j => by rw [hr.waitingAt, hentered.waitingAt],
      fun l => by rw [hr.claims, hentered.claims], fun g => by rw [hr.group, hentered.group]⟩
  · exact hentered

theorem State.Claims.claimLaw {s t : State} {i : SlotId} {ls : LineSet} (h : s.Claims t i ls) (hno : ∀ l, s.claimsAt i l = false)
    (hl : s.ClaimLaw) : t.ClaimLaw := by
  refine State.claimLaw_of_change (i := i) hl (fun j l hne => by rw [h.claimsAt, if_neg hne]) fun l => ?_
  rw [h.claims, h.claimsAt, if_pos rfl, hno]
  simp

theorem State.Claims.holdersClaim {s t : State} {i : SlotId} {ls : LineSet} (h : s.Claims t i ls) {P : GroupId → Prop}
    (hh : ∀ g, P g → ∀ l, (s.group g).state = .held l → 0 < (s.line l).claims) :
    ∀ g, P g → ∀ l, (t.group g).state = .held l → 0 < (t.line l).claims := by
  intro g hg l hl
  rw [h.group] at hl
  rw [h.claims]
  exact Nat.lt_of_lt_of_le (hh g hg l hl) (Nat.le_add_right ..)

/-- Entry to ACTIVE at a line that its group's state allows, or at no grouped line (R91, R92). -/
theorem State.Claims.claimsBounded {s t : State} {i : SlotId} {ls : LineSet} (h : s.Claims t i ls)
    (hgr : ∀ g l, ls.getLsbD l.val = true → (s.group g).has l = true → (s.group g).state = .held l)
    {g : GroupId} (hb : s.claimsBounded g) : t.claimsBounded g := by
  obtain ⟨hpos, hheld⟩ := hb
  unfold State.claimsBounded
  rw [h.group]
  refine ⟨fun l hl hp => ?_, hheld⟩
  cases hn : ls.getLsbD l.val with
  | true => exact hgr g l hn hl
  | false =>
    rw [h.claims, hn] at hp
    exact hpos l hl hp

end Sys2Proof.Machine
end

section
/-! SUPPORT. The claims' law, the exclusion groups' law and the wait queues' law through every change and every happening
(R84, R91, R97). -/

namespace Sys2Proof.Machine

set_option Elab.async false

/-! ### Changes that touch no claim and no queue -/

theorem State.steady_rerun {s : State} {i : SlotId} {p p' : Permit} (here : s.permit i = some p) (runs : p.Reruns p')
    (grip : p'.state = p.state ∨ (grips p.state = false ∧ grips p'.state = false)) : s.Steady (s.setPermit i p') := by
  refine .of_permits (State.line_setPermit s i p') (State.group_setPermit s i p') fun j => ?_
  have hper := State.permit_setPermit s i j p'
  have hhan := State.handle_setPermit s i j p'
  by_cases hij : i = j
  · subst hij
    rw [if_pos rfl] at hper
    obtain hs | ⟨h1, h2⟩ := grip
    · exact .inl ⟨by rw [hper, here, Option.map_some, Option.map_some, hs, runs.lines], hhan⟩
    · exact .inr ⟨fun q hq => by rw [hper] at hq; cases hq; exact h2, fun q hq => by rw [here] at hq; cases hq; exact h1⟩
  · rw [if_neg hij] at hper; exact .inl ⟨by rw [hper], hhan⟩

theorem State.steady_retire {s : State} {i : SlotId} {p : Permit} (here : s.permit i = some p) (grip : grips p.state = false) :
    s.Steady (s.retire i) := by
  refine .of_permits (s.line_retire i) (s.group_retire i) fun j => ?_
  have hper := State.permit_retire_any here j
  by_cases hij : i = j
  · subst hij
    rw [if_pos rfl] at hper
    refine .inr ⟨fun q hq => ?_, fun q hq => ?_⟩
    · rw [hper] at hq; cases hq
    · rw [here] at hq; cases hq; exact grip
  · rw [if_neg hij] at hper
    refine .inl ⟨?_, by simp only [State.handle, State.gen_retire_of_ne hij]⟩
    rw [hper, Option.map_map]
    congr 1; funext q
    simp [Permit.state_dropReference, Permit.lines_dropReference]

theorem State.steady_orphans (s : State) (made : SlotId → Bool) :
    s.Steady (s.mapSlots fun i x => if made i then { x with permit := x.permit.map Permit.orphaned } else x) := by
  refine .of_permits (State.line_mapSlots s _) (State.group_mapSlots s _) fun j => .inl ⟨?_, ?_⟩
  · rw [State.permit_mapSlots, State.permit]
    cases made j
    · rfl
    · rw [if_pos rfl, Option.map_map]; rfl
  · simp only [State.handle, State.slot_mapSlots]
    cases made j <;> rfl

theorem State.Steady.refl (s : State) : s.Steady s := ⟨fun _ _ => rfl, fun _ => rfl, fun _ => rfl, fun _ => rfl⟩

theorem State.steady_of_slots {s t : State} (hs : t.slots = s.slots) (hl : ∀ l, t.line l = s.line l)
    (hg : ∀ g, t.group g = s.group g) : s.Steady t :=
  .of_permits hl hg fun i => .inl ⟨by rw [State.permit_of_slots hs], State.handle_of_slots hs i⟩

/-- An end of no permit changes nothing. -/
theorem State.enterEnded_none {s : State} {i : SlotId} (h : s.permit i = none) (r : EndReason) : s.enterEnded i r = s := by
  simp [State.enterEnded, h]

theorem State.stopAndRetire_none {s : State} {i : SlotId} (h : s.permit i = none) : s.stopAndRetire i = s := by
  have : s.detach i = s := by simp [State.detach, h]
  simp [State.stopAndRetire, this, State.retire, h]

/-- A permit that is not ACTIVE or BLOCKED claims nothing and waits for nothing. -/
theorem State.free_of_grips {s : State} {i : SlotId} {p : Permit} (here : s.permit i = some p) (grip : grips p.state = false) :
    (∀ l, s.claimsAt i l = false) ∧ s.waitingAt i = none := by
  simp only [grips, Bool.or_eq_false_iff, decide_eq_false_iff_not] at grip
  exact ⟨fun l => by simp [State.claimsAt, here, grip], by simp [State.waitingAt, here, grip]⟩

/-- A permit that is not ACTIVE claims nothing. -/
theorem State.claimsAt_of_ne {s : State} {i : SlotId} {p : Permit} (here : s.permit i = some p) (h : p.state ≠ .active) (l : LineId) :
    s.claimsAt i l = false := by simp [State.claimsAt, here, h]

/-! ### A permit enters BLOCKED (R31) -/

/-- The permit in a slot waits at the tail of a group's queue. -/
structure State.Waits (s t : State) (i : SlotId) (g : GroupId) (ls : LineSet) : Prop where
  claimsAt : ∀ j l, t.claimsAt j l = s.claimsAt j l
  waitingAt : ∀ j, t.waitingAt j = if j = i then some (s.handle i, ls) else s.waitingAt j
  claims : ∀ l, (t.line l).claims = (s.line l).claims
  group : ∀ g', t.group g' = if g' = g then { s.group g with queue := (s.group g).queue ++ [s.handle i] } else s.group g'

theorem State.waits_enterBlocked {s : State} {i : SlotId} {p : Permit} (here : s.permit i = some p) (grip : grips p.state = false)
    (g : GroupId) : s.Waits (s.enterBlocked i g) i g p.lines := by
  rw [State.enterBlocked_ofPermit here]
  generalize hu : (s.setGroup g { s.group g with queue := (s.group g).queue ++ [s.handle i] }).setPermit i
    { p with state := .blocked, remaining := 0, blockedAge := 0 } = u
  have hper : ∀ j, u.permit j = if i = j then some { p with state := .blocked, remaining := 0, blockedAge := 0 } else s.permit j :=
    fun j => by rw [← hu, State.permit_setPermit]; rfl
  have hhan : ∀ j, u.handle j = s.handle j := fun j => by rw [← hu, State.handle_setPermit]; rfl
  have hr := State.steady_raise u i .blocked
  refine ⟨fun j l => ?_, fun j => ?_, fun l => ?_, fun g' => ?_⟩
  · rw [hr.claimsAt, State.claimsAt, hper]
    by_cases hij : i = j
    · subst hij; rw [(State.free_of_grips here grip).1]; simp
    · rw [if_neg hij]; rfl
  · rw [hr.waitingAt, State.waitingAt, hper, hhan]
    by_cases hij : i = j
    · subst hij; simp
    · rw [if_neg hij, if_neg (Ne.symm hij)]; rfl
  · rw [hr.claims, ← hu]; rfl
  · rw [hr.group, ← hu, State.group_setPermit, State.group_setGroup]
    by_cases hg : g = g'
    · subst hg; simp
    · rw [if_neg hg, if_neg (Ne.symm hg)]

section
variable {s t : State} {i : SlotId} {g : GroupId} {ls : LineSet} (h : s.Waits t i g ls)
include h

theorem State.Waits.groupState (g' : GroupId) : (t.group g').state = (s.group g').state ∧ (t.group g').members = (s.group g').members := by
  rw [h.group]
  split
  · next hg => rw [hg]; exact ⟨rfl, rfl⟩
  · exact ⟨rfl, rfl⟩

theorem State.Waits.meets (g' : GroupId) (xs : LineSet) : t.meets g' xs ↔ s.meets g' xs := by
  unfold State.meets Group.has
  rw [(h.groupState g').2]

theorem State.Waits.claimLaw (hl : s.ClaimLaw) : t.ClaimLaw := by
  rw [State.claimLaw_iff] at hl ⊢
  simpa only [h.claims, h.claimsAt] using hl

theorem State.Waits.claimsBounded {g' : GroupId} (hb : s.claimsBounded g') : t.claimsBounded g' := by
  simpa only [State.claimsBounded, Group.has, h.claims, (h.groupState g').1, (h.groupState g').2] using hb

theorem State.Waits.blockedLaw (hm : s.meets g ls) (hb : s.BlockedLaw) : t.BlockedLaw := by
  rw [State.blockedLaw_iff] at hb ⊢
  intro j w hw
  rw [h.waitingAt] at hw
  split at hw
  · cases hw; exact ⟨g, (h.meets g ls).mpr hm⟩
  · obtain ⟨g', hg'⟩ := hb j w hw
    exact ⟨g', (h.meets ..).mpr hg'⟩

/-- The queue of the group that a permit joins holds it once, and no other queue does. -/
theorem State.Waits.queuesMatch (hno : s.waitingAt i = none) (hm : s.meets g ls) (huniq : ∀ g', s.meets g' ls → g' = g)
    (hq : s.QueuesMatch) : t.QueuesMatch := by
  have hiff : ∀ g' x, t.blockedOn g' x = true ↔ (x = s.handle i ∧ g' = g) ∨ s.blockedOn g' x = true := by
    intro g' x
    rw [State.blockedOn_iff, State.blockedOn_iff]
    simp only [h.waitingAt, h.meets]
    constructor
    · rintro ⟨ls', hw, hm'⟩
      split at hw
      · cases hw; exact .inl ⟨rfl, huniq g' hm'⟩
      · exact .inr ⟨ls', hw, hm'⟩
    · rintro (⟨rfl, rfl⟩ | ⟨ls', hw, hm'⟩)
      · exact ⟨ls, by simp, hm⟩
      · refine ⟨ls', ?_, hm'⟩
        rw [if_neg, hw]
        intro hx
        rw [hx, hno] at hw; cases hw
  intro g'
  obtain ⟨hnd, hmem⟩ := hq g'
  rw [h.group]
  have hnot : s.handle i ∉ (s.group g).queue := by
    intro hin
    obtain ⟨ls', hw, -⟩ := State.blockedOn_iff.mp ((hq g).2 _ |>.mp hin)
    rw [State.slot_handle, hno] at hw
    cases hw
  split
  · next hg =>
    subst hg
    refine ⟨hnd.append (List.nodup_singleton _) (by simpa using hnot), fun x => ?_⟩
    rw [hiff, List.mem_append, List.mem_singleton, hmem x]
    tauto
  · next hg =>
    refine ⟨hnd, fun x => ?_⟩
    rw [hiff, hmem x]
    simp [hg]

theorem State.Waits.freeIsEmpty (hne : (s.group g).state ≠ .free) (hf : s.FreeIsEmpty) : t.FreeIsEmpty := by
  intro g' hg'
  rw [(h.groupState g').1] at hg'
  rw [h.group, if_neg (by rintro rfl; exact hne hg')]
  exact hf g' hg'

end

/-! ### The exclusion groups' law through every change (R91) -/

/-- The law is kept where the claims are, the permits standing as Permit.Evolves has it. -/
theorem State.GroupsHold.of_beats {k : Scope} {s t : State} (h : s.GroupsHold) (hb : State.Beats k s t) (hc : t.ClaimLaw)
    (hg : ∀ g, t.claimsBounded g) : t.GroupsHold :=
  ⟨hc, h.members.of_members hb.stands.members, h.grouped.of_evolve hb.stands.members hb.evolves, hg⟩

/-- A write of a group's state keeps its claims' law where the claims agree with the new state. -/
theorem State.GroupsHold.setGroup {s : State} {g : GroupId} {x : Group} (h : s.GroupsHold)
    (hx : x = { s.group g with state := x.state, queue := x.queue }) (hheld : ∀ l, x.state = .held l → (s.group g).has l = true)
    (hclaims : ∀ l, (s.group g).has l = true → 0 < (s.line l).claims → x.state = .held l) : (s.setGroup g x).GroupsHold := by
  refine h.of_beats (k := .run) (.single (s.beat_setGroup hx)) h.claim fun g' => ?_
  have hhas : ∀ l, x.has l = (s.group g).has l := fun l => by rw [hx]; rfl
  unfold State.claimsBounded
  rw [State.group_setGroup]
  split
  · next hg =>
    subst hg
    simp only [hhas]
    exact ⟨hclaims, hheld⟩
  · exact h.bounded g'

/-- A group that may leave its state has no claim on a member (R91, R94). -/
theorem State.GroupsHold.claims_of_mayFree {s : State} {g : GroupId} (h : s.GroupsHold) (may : s.mayFree g) {l : LineId}
    (hl : (s.group g).has l = true) : ¬0 < (s.line l).claims := by
  intro hpos
  have hheld := (h.bounded g).1 l hl hpos
  obtain hr | hg := may
  · simp only [State.holderReleased, hheld, decide_eq_true_eq] at hr
    omega
  · simp [hheld, GroupState.isGap] at hg

theorem State.GroupsHold.enterActive {s : State} {i : SlotId} {p : Permit} (h : s.GroupsHold) (here : s.permit i = some p)
    (before : p.state.inService = true) (hne : p.state ≠ .active) (started : p.state.running = true ∨ s.quenched = false)
    (hgr : ∀ g l, p.names l = true → (s.group g).has l = true → (s.group g).state = .held l) (b : Bool) :
    (s.enterActive i b).GroupsHold := by
  have hc := State.claims_enterActive here b
  exact h.of_beats (k := .run) (State.beats_enterActive here before started b) (hc.claimLaw (State.claimsAt_of_ne here hne) h.claim)
    fun g => hc.claimsBounded hgr (h.bounded g)

/-- A permit that names a member line names it alone among the grouped lines (R23). -/
theorem State.GroupsHold.unique {s : State} {i : SlotId} {p : Permit} (h : s.GroupsHold) (here : s.permit i = some p)
    (before : p.state.inService = true) {g g' : GroupId} {l l' : LineId} (hl : p.names l = true) (hg : (s.group g).has l = true)
    (hl' : p.names l' = true) (hg' : (s.group g').has l' = true) : g = g' ∧ l = l' :=
  State.grouped_unique h.members (h.grouped i p here before) hl hg hl' hg'

/-- A permit in service enters ACTIVE at the member line that its group is HELD by from now on. -/
theorem State.GroupsHold.letIn {s : State} {g : GroupId} {x : Group} {i : SlotId} {p : Permit} {l : LineId} (h : s.GroupsHold)
    (here : s.permit i = some p) (before : p.state.inService = true) (hne : p.state ≠ .active)
    (started : p.state.running = true ∨ s.quenched = false) (hl : p.names l = true) (hg : (s.group g).has l = true)
    (hx : x = { s.group g with state := .held l, queue := x.queue })
    (hst : (s.group g).state = .free ∨ (s.group g).state = .held l) (b : Bool) : ((s.setGroup g x).enterActive i b).GroupsHold := by
  have hxs : x.state = .held l := by rw [hx]
  have hset : (s.setGroup g x).GroupsHold := by
    refine h.setGroup (by rw [hxs]; exact hx) (fun l' hl' => ?_) fun l' hl' hpos => ?_
    · rw [hxs] at hl'; cases hl'; exact hg
    · have := (h.bounded g).1 l' hl' hpos
      rw [hxs]
      obtain hf | hf := hst
      · rw [hf] at this; cases this
      · rw [← this, hf]
  refine hset.enterActive (s := s.setGroup g x) here before hne started (fun g' l' hl' hg' => ?_) b
  have hhas : (s.group g').has l' = true := by
    rw [State.group_setGroup] at hg'
    split at hg'
    · next hgg => subst hgg; rw [hx] at hg'; exact hg'
    · exact hg'
  obtain ⟨rfl, rfl⟩ := h.unique here before hl hg hl' hhas
  rw [State.group_setGroup, if_pos rfl, hxs]

/-! ### Grants (R96) -/

/-- The followers of a grant: what each of them keeps holds of the queue that is left, and the group stays HELD. -/
theorem State.grantFollowers_keeps {g : GroupId} {l : LineId} {P : State → Prop}
    (hP : ∀ (s : State) (h : Handle) (rest : List Handle) (p : Permit), P s → (s.group g).queue = h :: rest →
      (s.group g).state = .held l → s.blockedPermit h = some p → s.memberLine g p = some l →
      P ((s.setGroup g { s.group g with queue := rest }).enterActive h.slot true))
    (q : List Handle) {s : State} (hs : P s) (hq : (s.group g).queue = q) (hst : (s.group g).state = .held l) :
    P (State.grantFollowers g l q s) ∧ ((State.grantFollowers g l q s).group g).state = .held l := by
  induction q generalizing s with
  | nil => exact ⟨hs, hst⟩
  | cons h rest ih =>
    unfold State.grantFollowers
    split
    · exact ⟨hs, hst⟩
    · next p hp =>
      split
      · next hm =>
        have hpe := State.permit_of_resolve (State.blockedPermit_eq_some.mp hp).1
        have hc := State.claims_enterActive (s := s.setGroup g { s.group g with queue := rest }) (i := h.slot) (p := p) hpe true
        refine ih (hP s h rest p hs hq hst hp hm) ?_ ?_
        · rw [hc.group, State.group_setGroup, if_pos rfl]
        · rw [hc.group, State.group_setGroup, if_pos rfl]; exact hst
      · exact ⟨hs, hst⟩

/-- A grant, made at a FREE group: the head enters ACTIVE, its followers after it, or nothing happens. -/
theorem State.grant_keeps {g : GroupId} {P : State → Prop} {s : State} (hs : P s)
    (hhead : ∀ (h : Handle) (rest : List Handle) (p : Permit) (l : LineId), (s.group g).queue = h :: rest →
      s.blockedPermit h = some p → s.memberLine g p = some l →
      P ((s.setGroup g { s.group g with state := .held l, queue := rest }).enterActive h.slot true))
    (hP : ∀ (l : LineId) (s : State) (h : Handle) (rest : List Handle) (p : Permit), P s → (s.group g).queue = h :: rest →
      (s.group g).state = .held l → s.blockedPermit h = some p → s.memberLine g p = some l →
      P ((s.setGroup g { s.group g with queue := rest }).enterActive h.slot true)) :
    P (s.grant g) ∧ ((s.grant g = s) ∨ ∃ l, ((s.grant g).group g).state = .held l) := by
  unfold State.grant
  dsimp only
  split
  · exact ⟨hs, .inl rfl⟩
  next h rest hq =>
  split
  · exact ⟨hs, .inl rfl⟩
  next p hp =>
  split
  · exact ⟨hs, .inl rfl⟩
  next l hm =>
    have hpe := State.permit_of_resolve (State.blockedPermit_eq_some.mp hp).1
    have hc := State.claims_enterActive (s := s.setGroup g { s.group g with state := .held l, queue := rest }) (i := h.slot)
      (p := p) hpe true
    have := State.grantFollowers_keeps (hP l) rest (hhead h rest p l hq hp hm)
      (by rw [hc.group, State.group_setGroup, if_pos rfl]) (by rw [hc.group, State.group_setGroup, if_pos rfl])
    exact ⟨this.1, .inr ⟨l, this.2⟩⟩

/-- What a BLOCKED permit at the head of a queue brings to its entry to ACTIVE. -/
theorem State.blocked_facts {s : State} {h : Handle} {p : Permit} (hp : s.blockedPermit h = some p) :
    s.permit h.slot = some p ∧ p.state.inService = true ∧ p.state ≠ .active ∧ p.state.running = true := by
  obtain ⟨hr, hb⟩ := State.blockedPermit_eq_some.mp hp
  exact ⟨State.permit_of_resolve hr, by rw [hb]; rfl, by rw [hb]; nofun, by rw [hb]; rfl⟩

theorem State.GroupsHold.grant {s : State} {g : GroupId} (h : s.GroupsHold) (hfree : (s.group g).state = .free) :
    (s.grant g).GroupsHold := by
  refine (State.grant_keeps (P := State.GroupsHold) h (fun x rest p l _ hp hm => ?_)
    fun l t x rest p ht _ hst hp hm => ?_).1
  · obtain ⟨hpe, h1, h2, h3⟩ := State.blocked_facts hp
    obtain ⟨hl, hg⟩ := State.memberLine_eq_some hm
    exact h.letIn hpe h1 h2 (.inl h3) hl hg rfl (.inl hfree) true
  · obtain ⟨hpe, h1, h2, h3⟩ := State.blocked_facts hp
    obtain ⟨hl, hg⟩ := State.memberLine_eq_some hm
    exact ht.letIn hpe h1 h2 (.inl h3) hl hg (by rw [← hst]) (.inr hst) true

/-! ### The claims' law through every change (R84) -/

theorem State.ClaimLaw.enterActive {s : State} {i : SlotId} {p : Permit} (h : s.ClaimLaw) (here : s.permit i = some p)
    (hne : p.state ≠ .active) (b : Bool) : (s.enterActive i b).ClaimLaw :=
  (State.claims_enterActive here b).claimLaw (State.claimsAt_of_ne here hne) h

theorem State.ClaimLaw.grant {s : State} {g : GroupId} (h : s.ClaimLaw) :
    (s.grant g).ClaimLaw := by
  have hletIn : ∀ (t : State) (x : Handle) (y : Group) (p : Permit), t.ClaimLaw → t.blockedPermit x = some p →
      ((t.setGroup g y).enterActive x.slot true).ClaimLaw := fun t x y p ht hp =>
    have ⟨hpe, _, hne, _⟩ := State.blocked_facts hp
    State.ClaimLaw.enterActive (s := t.setGroup g y) ht hpe hne true
  exact (State.grant_keeps (P := State.ClaimLaw) h (fun x rest p l _ hp _ => hletIn s x _ p h hp)
    fun l t x rest p ht _ _ hp _ => hletIn t x _ p ht hp).1

theorem State.ne_active_of_grips {x : PState} (h : grips x = false) : x ≠ .active := by
  rintro rfl; cases h

theorem State.ClaimLaw.activate {s : State} {i : SlotId} {p : Permit} (h : s.ClaimLaw) (here : s.permit i = some p)
    (grip : grips p.state = false) : (s.activate i).ClaimLaw := by
  have hne := State.ne_active_of_grips grip
  unfold State.activate
  simp only [here]
  split
  · exact h.enterActive here hne false
  · next g l _ =>
    split
    · exact State.ClaimLaw.enterActive (s := s.setGroup g _) h here hne false
    · exact (State.waits_enterBlocked here grip g).claimLaw h

/-- The changes that touch no claim, no queue and no group. -/
theorem State.letsGo_or_steady_ends (s : State) (i : SlotId) (r : EndReason) :
    s.Steady (s.enterEnded i r) ∨ s.LetsGo (s.enterEnded i r) i := by
  cases hp : s.permit i with
  | none => rw [State.enterEnded_none hp]; exact .inl (.refl s)
  | some p => exact .inr (State.letsGo_enterEnded hp r)

theorem State.letsGo_or_steady_scraps (s : State) (i : SlotId) : s.Steady (s.stopAndRetire i) ∨ s.LetsGo (s.stopAndRetire i) i := by
  cases hp : s.permit i with
  | none => rw [State.stopAndRetire_none hp]; exact .inl (.refl s)
  | some p => exact .inr (State.letsGo_stopAndRetire hp)

/-- Every change but an activation request and the steps of a group touches no claim and no queue, or lets go of one permit's. -/
theorem State.Change.effect {k : Scope} {s t : State} (h : State.Change k s t) :
    s.Steady t ∨ (∃ i, s.LetsGo t i ∧ (k.stops = false → ∀ l, s.claimsAt i l = false)) ∨
      (∃ i p, s.permit i = some p ∧ p.state.inService = true ∧ grips p.state = false ∧
        (p.state.running = true ∨ s.quenched = false) ∧ t = s.activate i) ∨
      (∃ g, s.mayFree g ∧ t = (s.setGroup g { s.group g with state := .free }).grant g) ∨
      ∃ g n, s.mayFree g ∧ t = s.setGroup g { s.group g with state := .gap n } := by
  cases h with
  | drawn => exact .inl (State.steady_of_slots rfl (fun _ => rfl) fun _ => rfl)
  | raise i n => exact .inl (s.steady_raise i n)
  | rerun here runs _ _ _ _ _ grip => exact .inl (State.steady_rerun here runs grip)
  | activate here before grip started => exact .inr (.inr (.inl ⟨_, _, here, before, grip, started, rfl⟩))
  | @stop i p p' scope here runs _ _ after =>
    refine .inr (.inl ⟨i, State.letsGo_setPermit (by obtain h | h := after <;> rw [h] <;> rfl), fun hk l => ?_⟩)
    exact State.claimsAt_of_ne here (scope.resolve_left (by simp [hk])) l
  | ends scope i r =>
    refine (s.letsGo_or_steady_ends i r).imp_right fun hl => .inl ⟨i, hl, fun hk => ?_⟩
    cases k <;> simp_all [Scope.stops, Scope.endsPermits]
  | retire here _ grip => exact .inl (State.steady_retire here grip)
  | frees may => exact .inr (.inr (.inr (.inl ⟨_, may, rfl⟩)))
  | gaps may n => exact .inr (.inr (.inr (.inr ⟨_, n, may, rfl⟩)))
  | scraps scope i =>
    refine (s.letsGo_or_steady_scraps i).imp_right fun hl => .inl ⟨i, hl, fun hk => ?_⟩
    cases k <;> simp_all [Scope.stops, Scope.clears]
  | @orphans made => exact .inl (s.steady_orphans made)
  | closes => exact .inl (State.steady_of_slots rfl (fun _ => rfl) fun _ => rfl)

theorem State.Change.claimLaw {k : Scope} {s t : State} (h : State.Change k s t) (hs : s.ClaimLaw) : t.ClaimLaw := by
  obtain hst | ⟨i, hl, -⟩ | ⟨i, p, here, -, grip, -, rfl⟩ | ⟨g, -, rfl⟩ | ⟨g, n, -, rfl⟩ := h.effect
  · exact hst.claimLaw hs
  · exact hl.claimLaw hs
  · exact hs.activate here grip
  · exact State.ClaimLaw.grant (s := s.setGroup g _) hs
  · exact hs

theorem State.GroupsHold.activate {s : State} {i : SlotId} {p : Permit} (h : s.GroupsHold) (here : s.permit i = some p)
    (before : p.state.inService = true) (grip : grips p.state = false) (started : p.state.running = true ∨ s.quenched = false) :
    (s.activate i).GroupsHold := by
  have hne := State.ne_active_of_grips grip
  have hbeats := State.beats_activate (k := .run) here before started
  unfold State.activate at hbeats ⊢
  simp only [here] at hbeats ⊢
  split
  · next hg =>
    refine h.enterActive here before hne started (fun g l hl hhas => ?_) false
    have := State.groupedLine_isSome.mpr ⟨g, l, hl, hhas⟩
    rw [hg] at this; cases this
  · next g l hg =>
    obtain ⟨hl, hhas⟩ := State.groupedLine_eq_some hg
    simp only [hg] at hbeats
    split
    · next hnow =>
      exact h.letIn here before hne started hl hhas rfl (Group.answersNow_iff.mp hnow).2 false
    · next hnow =>
      rw [if_neg hnow] at hbeats
      have hw := State.waits_enterBlocked here grip g
      exact h.of_beats hbeats (hw.claimLaw h.claim) fun g' => hw.claimsBounded (h.bounded g')

/-- A group that may leave its state leaves it for FREE or GAP (R94). -/
theorem State.GroupsHold.leaves {s : State} {g : GroupId} (h : s.GroupsHold) (may : s.mayFree g) {x : GroupState}
    (hx : ∀ l, x ≠ .held l) : (s.setGroup g { s.group g with state := x }).GroupsHold :=
  h.setGroup rfl (fun l hl => absurd hl (hx l)) fun _ hl hpos => absurd hpos (h.claims_of_mayFree may hl)

theorem State.Change.groupsHold {k : Scope} {s t : State} (h : State.Change k s t) (hs : s.GroupsHold) : t.GroupsHold := by
  have hb := h.beats
  have hc := h.claimLaw hs.claim
  obtain hst | ⟨i, hl, -⟩ | ⟨i, p, here, before, grip, started, rfl⟩ | ⟨g, may, rfl⟩ | ⟨g, n, may, rfl⟩ := h.effect
  · exact hs.of_beats hb hc fun g => hst.claimsBounded (hs.bounded g)
  · exact hs.of_beats hb hc fun g => hl.claimsBounded (hs.bounded g)
  · exact hs.activate here before grip started
  · exact (hs.leaves (x := .free) may fun _ h => nomatch h).grant (by simp)
  · exact hs.leaves (x := .gap n) may fun _ h => nomatch h

/-! ### HELD groups have their claims between releases (R91, R94) -/

/-- The HELD groups among some have a claim on their holder lines. -/
def State.HoldersClaimIn (s : State) (P : GroupId → Prop) : Prop :=
  ∀ g, P g → ∀ l, (s.group g).state = .held l → 0 < (s.line l).claims

/-- Entry to ACTIVE at the line that a group is HELD by from now on. -/
theorem State.HoldersClaimIn.letIn {s : State} {g : GroupId} {x : Group} {i : SlotId} {p : Permit} {l : LineId} {P : GroupId → Prop}
    (h : s.HoldersClaimIn P) (here : s.permit i = some p) (hl : p.names l = true) (hx : x.state = .held l) (b : Bool) :
    ((s.setGroup g x).enterActive i b).HoldersClaimIn fun g' => P g' ∨ g' = g := by
  have hc := State.claims_enterActive (s := s.setGroup g x) here b
  intro g' hg' l' hheld
  rw [hc.group, State.group_setGroup] at hheld
  rw [hc.claims]
  by_cases hgg : g = g'
  · rw [if_pos hgg, hx] at hheld
    cases hheld
    rw [Permit.names] at hl
    rw [hl]
    exact Nat.succ_pos _
  · rw [if_neg hgg] at hheld
    exact Nat.lt_of_lt_of_le (h g' (hg'.resolve_right (Ne.symm hgg)) l' hheld) (Nat.le_add_right ..)

theorem State.HoldersClaimIn.mono {s : State} {P Q : GroupId → Prop} (h : s.HoldersClaimIn P) (hPQ : ∀ g, Q g → P g) :
    s.HoldersClaimIn Q := fun g hg => h g (hPQ g hg)

theorem State.HoldersClaimIn.leaves {s : State} {g : GroupId} {P : GroupId → Prop} (h : s.HoldersClaimIn P) {x : GroupState}
    (hx : ∀ l, x ≠ .held l) : (s.setGroup g { s.group g with state := x }).HoldersClaimIn fun g' => P g' ∨ g' = g := by
  intro g' hg' l hl
  rw [State.group_setGroup] at hl
  split at hl
  · exact absurd hl (hx l)
  · next hne => exact h g' (hg'.resolve_right (Ne.symm hne)) l hl

theorem State.HoldersClaimIn.grant {s : State} {g : GroupId} {P : GroupId → Prop} (h : s.HoldersClaimIn P) : (s.grant g).HoldersClaimIn P := by
  refine (State.grant_keeps (P := (State.HoldersClaimIn · P)) h (fun x rest p l _ hp hm => ?_)
    fun l t x rest p ht _ hst hp hm => ?_).1
  · exact (h.letIn (State.blocked_facts hp).1 (State.memberLine_eq_some hm).1 rfl true).mono fun _ => .inl
  · exact (ht.letIn (x := { t.group g with queue := rest }) (State.blocked_facts hp).1 (State.memberLine_eq_some hm).1 hst true).mono fun _ => .inl

theorem State.holdersClaimIn_frees {s : State} {g : GroupId} {P : GroupId → Prop} (h : s.HoldersClaimIn P) :
    ((s.setGroup g { s.group g with state := .free }).grant g).HoldersClaimIn fun g' => P g' ∨ g' = g :=
  (h.leaves (x := .free) fun _ h => nomatch h).grant

/-- A happening of permits in their run leaves every HELD group its claims. -/
theorem State.Change.holdersClaim {s t : State} (h : State.Change .run s t) (hs : s.HoldersClaim) : t.HoldersClaim := by
  have hall : s.HoldersClaimIn fun _ => True := fun g _ => hs g
  obtain hst | ⟨i, hl, hno⟩ | ⟨i, p, here, before, grip, started, rfl⟩ | ⟨g, may, rfl⟩ | ⟨g, n, may, rfl⟩ := h.effect
  · exact hst.holdersClaim hs
  · exact hl.holdersClaim (hno rfl) hs
  · unfold State.activate
    simp only [here]
    split
    · exact fun g => (State.claims_enterActive here false).holdersClaim hall g trivial
    · next g l hg =>
      split
      · exact fun g' => hall.letIn here (State.groupedLine_eq_some hg).1 rfl false g' (.inl trivial)
      · have hw := State.waits_enterBlocked here grip g
        intro g' l' hl'
        rw [(hw.groupState g').1] at hl'
        rw [hw.claims]
        exact hs g' l' hl'
  · exact fun g' => State.holdersClaimIn_frees hall g' (.inl trivial)
  · exact fun g' => hall.leaves (g := g) (x := .gap n) (fun _ h => nomatch h) g' (.inl trivial)

theorem mem_orderByKey {α : Type} {key : α → Nat} {xs : List α} {x : α} : x ∈ orderByKey key xs ↔ x ∈ xs := by
  have hins : ∀ (ys : List α) (y : α), x ∈ insertByKey key y ys ↔ x = y ∨ x ∈ ys := by
    intro ys y
    induction ys with
    | nil => simp [insertByKey]
    | cons z zs ih =>
      unfold insertByKey
      split
      · simp
      · simp only [List.mem_cons, ih]; exact or_left_comm
  induction xs with
  | nil => simp [orderByKey]
  | cons y ys ih =>
    rw [show orderByKey key (y :: ys) = insertByKey key y (orderByKey key ys) from rfl, hins, List.mem_cons]; exact or_congr_right ih

/-- Every group that is HELD without a claim takes its release (R94, R99). -/
theorem State.holdersClaim_releaseGroups (s : State) : s.releaseGroups.HoldersClaim := by
  have hfold : ∀ (xs : List GroupId) (t : State), (t.HoldersClaimIn fun g => g ∉ xs) →
      (xs.foldl (fun s g => if s.holderReleased g then s.releaseGroup g else s) t).HoldersClaim := by
    intro xs
    induction xs with
    | nil => exact fun t ht g => ht g (by simp)
    | cons g rest ih =>
      intro t ht
      refine ih _ ?_
      have hsplit : ∀ {u : State}, (u.HoldersClaimIn fun g' => g' ∉ g :: rest ∨ g' = g) → u.HoldersClaimIn fun g' => g' ∉ rest :=
        fun hu => hu.mono fun g' hg' => by
          by_cases hgg : g' = g
          · exact .inr hgg
          · exact .inl (by simp [hgg, hg'])
      dsimp only
      split
      · unfold State.releaseGroup
        dsimp only
        split
        · exact hsplit (State.holdersClaimIn_frees ht)
        · exact hsplit (ht.leaves (x := .gap _) fun _ h => nomatch h)
      · next hr =>
        refine hsplit fun g' hg' l hl => ?_
        by_cases hgg : g' = g
        · subst hgg
          simp only [State.holderReleased, hl, decide_eq_true_eq] at hr
          exact Nat.pos_of_ne_zero hr
        · exact ht g' (hg'.resolve_right hgg) l hl
  refine hfold _ _ fun g hg l hl => ?_
  rw [State.freeGroups, mem_orderByKey, List.mem_filter] at hg
  have hr : s.holderReleased g ≠ true := fun h => hg ⟨List.mem_finRange g, h⟩
  rw [State.group_drawn] at hl
  simp only [State.holderReleased, hl] at hr
  exact Nat.pos_of_ne_zero fun h0 => hr (decide_eq_true h0)

/-! ### The wait queues' law through every change (R97) -/

/-- The laws of groups and queues as a happening in course leaves them. -/
structure State.QueuesHold (s : State) : Prop where
  groups : s.GroupsHold
  blocked : s.BlockedLaw
  match_ : s.QueuesMatch
  free : s.FreeIsEmpty

section
variable {s t : State} (hw : ∀ j, t.waitingAt j = s.waitingAt j) (hm : ∀ g, (t.group g).members = (s.group g).members)
include hw hm

theorem State.BlockedLaw.of_waits (h : s.BlockedLaw) : t.BlockedLaw := by
  rw [State.blockedLaw_iff] at h ⊢
  simpa only [hw, State.meets, Group.has, hm] using h

theorem State.QueuesMatch.of_waits (h : s.QueuesMatch) (hq : ∀ g, (t.group g).queue = (s.group g).queue) : t.QueuesMatch := by
  intro g
  rw [hq]
  refine ⟨(h g).1, fun x => ?_⟩
  rw [(h g).2 x, State.blockedOn_iff, State.blockedOn_iff]
  simp only [hw, State.meets, Group.has, hm]

theorem State.QueuesHold.of_waits (h : s.QueuesHold) (hg : t.GroupsHold) (hq : ∀ g, (t.group g).queue = (s.group g).queue)
    (hf : ∀ g, (t.group g).state = .free → (s.group g).state = .free) : t.QueuesHold :=
  ⟨hg, h.blocked.of_waits hw hm, h.match_.of_waits hw hm hq, fun g hst => by rw [hq]; exact h.free g (hf g hst)⟩

end

/-- A group is granted to the BLOCKED head of its queue. -/
theorem State.QueuesHold.letIn {s : State} {g : GroupId} {x : Group} {h : Handle} {rest : List Handle} {p : Permit} {l : LineId}
    (hs : s.GroupsHold) (hb : s.BlockedLaw) (hq : s.QueuesMatch) (hf : ∀ g', g' ≠ g → (s.group g').state = .free → (s.group g').queue = [])
    (hqueue : (s.group g).queue = h :: rest) (hp : s.blockedPermit h = some p) (hm : s.memberLine g p = some l)
    (hx : x = { s.group g with state := .held l, queue := rest })
    (hst : (s.group g).state = .free ∨ (s.group g).state = .held l) : ((s.setGroup g x).enterActive h.slot true).QueuesHold := by
  obtain ⟨hpe, h1, h2, h3⟩ := State.blocked_facts hp
  obtain ⟨hl, hg⟩ := State.memberLine_eq_some hm
  obtain ⟨hr, hbl⟩ := State.blockedPermit_eq_some.mp hp
  have hgroups := hs.letIn (x := x) hpe h1 h2 (.inl h3) hl hg (by rw [hx]) hst true
  have hc := State.claims_enterActive (s := s.setGroup g x) hpe true
  have hgroup : ∀ g', ((s.setGroup g x).enterActive h.slot true).group g' = if g' = g then x else s.group g' := by
    intro g'
    rw [hc.group, State.group_setGroup]
    by_cases hgg : g = g'
    · rw [if_pos hgg, if_pos hgg.symm]
    · rw [if_neg hgg, if_neg (Ne.symm hgg)]
  have hmeets : ∀ g' ls, ((s.setGroup g x).enterActive h.slot true).meets g' ls ↔ s.meets g' ls := by
    intro g' ls
    unfold State.meets
    rw [hgroup]
    split
    · next hgg => rw [hgg, hx]; rfl
    · rfl
  have hwait : s.waitingAt h.slot = some (h, p.lines) := by
    rw [State.waitingAt_of_permit hpe, if_pos hbl, ← (State.resolve_eq_some.mp hr).1]
  have hwaits : ∀ j, ((s.setGroup g x).enterActive h.slot true).waitingAt j = if j = h.slot then none else s.waitingAt j := hc.waitingAt
  refine ⟨hgroups, ?_, fun g' => ?_, fun g' hfree => ?_⟩
  · rw [State.blockedLaw_iff] at hb ⊢
    intro j w hw
    rw [hwaits] at hw
    split at hw
    · cases hw
    · simpa only [hmeets] using hb j w hw
  · have hiff : ∀ y, ((s.setGroup g x).enterActive h.slot true).blockedOn g' y = true ↔ y ≠ h ∧ s.blockedOn g' y = true := by
      intro y
      rw [State.blockedOn_iff, State.blockedOn_iff]
      simp only [hwaits, hmeets]
      constructor
      · rintro ⟨ls, hw, hm'⟩
        split at hw
        · cases hw
        · next hne => exact ⟨by rintro rfl; exact hne rfl, ls, hw, hm'⟩
      · rintro ⟨hne, ls, hw, hm'⟩
        refine ⟨ls, ?_, hm'⟩
        rw [if_neg, hw]
        intro hy
        rw [hy, hwait] at hw
        exact hne (congrArg Prod.fst (Option.some.inj hw)).symm
    obtain ⟨hnd, hmem⟩ := hq g'
    rw [hgroup]
    split
    · next hgg =>
      subst hgg
      rw [hqueue] at hnd hmem
      obtain ⟨hnot, hnd'⟩ := List.nodup_cons.mp hnd
      have hxq : x.queue = rest := by rw [hx]
      rw [hxq]
      refine ⟨hnd', fun y => ?_⟩
      rw [hiff, ← hmem y, List.mem_cons]
      constructor
      · exact fun hy => ⟨by rintro rfl; exact hnot hy, .inr hy⟩
      · rintro ⟨hne, hy⟩; exact hy.resolve_left hne
    · next hgg =>
      refine ⟨hnd, fun y => ?_⟩
      rw [hiff, hmem y]
      refine ⟨fun hy => ⟨?_, hy⟩, And.right⟩
      rintro rfl
      obtain ⟨ls, hw, l', hl', hg'⟩ := State.blockedOn_iff.mp hy
      rw [hwait] at hw
      cases hw
      exact hgg (hs.unique hpe h1 hl hg hl' hg').1.symm
  · rw [hgroup] at hfree ⊢
    split at hfree
    · rw [hx] at hfree; cases hfree
    · next hgg => rw [if_neg hgg]; exact hf g' hgg hfree

/-- Freeing a group whose head is BLOCKED on it grants the group (R94 to R96). -/
theorem State.QueuesHold.frees {s : State} {g : GroupId} (h : s.QueuesHold) (may : s.mayFree g) :
    ((s.setGroup g { s.group g with state := .free }).grant g).QueuesHold := by
  generalize hu : s.setGroup g { s.group g with state := .free } = u
  have hgu : ∀ g', u.group g' = if g' = g then { s.group g with state := .free } else s.group g' := by
    intro g'
    rw [← hu, State.group_setGroup]
    by_cases hgg : g = g'
    · rw [if_pos hgg, if_pos hgg.symm]
    · rw [if_neg hgg, if_neg (Ne.symm hgg)]
  have hfree : (u.group g).state = .free := by rw [hgu, if_pos rfl]
  have hgroups : u.GroupsHold := hu ▸ h.groups.leaves (x := .free) may fun _ h => nomatch h
  have hsame : ∀ g', (u.group g').queue = (s.group g').queue ∧ (u.group g').members = (s.group g').members := by
    intro g'
    rw [hgu]
    split
    · next hgg => rw [hgg]; exact ⟨rfl, rfl⟩
    · exact ⟨rfl, rfl⟩
  have hwaits : ∀ i, u.waitingAt i = s.waitingAt i := fun i => by rw [← hu]; rfl
  have hblocked : u.BlockedLaw := h.blocked.of_waits hwaits fun g' => (hsame g').2
  have hmatch : u.QueuesMatch := h.match_.of_waits hwaits (fun g' => (hsame g').2) fun g' => (hsame g').1
  have hothers : ∀ g', g' ≠ g → (u.group g').state = .free → (u.group g').queue = [] := by
    intro g' hgg hst
    rw [hgu, if_neg hgg] at hst ⊢
    exact h.free g' hst
  cases hq : (u.group g).queue with
  | nil =>
    have : u.grant g = u := by unfold State.grant; simp only [hq]
    rw [this]
    refine ⟨hgroups, hblocked, hmatch, fun g' hst => ?_⟩
    by_cases hgg : g' = g
    · rw [hgg, hq]
    · exact hothers g' hgg hst
  | cons x rest =>
    have hon : u.blockedOn g x = true := ((hmatch g).2 x).mp (by rw [hq]; exact List.mem_cons_self)
    unfold State.blockedOn at hon
    split at hon
    · cases hon
    next p hp =>
    obtain ⟨l, hm⟩ := Option.isSome_iff_exists.mp hon
    have hhead := State.QueuesHold.letIn (x := { u.group g with state := .held l, queue := rest }) hgroups hblocked hmatch hothers hq
      hp hm rfl (.inl hfree)
    have hc := State.claims_enterActive (s := u.setGroup g { u.group g with state := .held l, queue := rest }) (i := x.slot)
      (State.blocked_facts hp).1 true
    unfold State.grant
    simp only [hq, hp, hm]
    refine (State.grantFollowers_keeps (P := State.QueuesHold) (fun t y rest p ht hq hst hp hm => ?_) rest hhead
      (by rw [hc.group, State.group_setGroup, if_pos rfl]) (by rw [hc.group, State.group_setGroup, if_pos rfl])).1
    exact .letIn ht.groups ht.blocked ht.match_ (fun g' _ => ht.free g') hq hp hm (by rw [← hst]) (.inr hst)

theorem State.QueuesHold.gaps {s : State} {g : GroupId} (h : s.QueuesHold) (may : s.mayFree g) (n : Nat) :
    (s.setGroup g { s.group g with state := .gap n }).QueuesHold := by
  have hgroup : ∀ g', ((s.setGroup g { s.group g with state := .gap n }).group g').members = (s.group g').members ∧
      ((s.setGroup g { s.group g with state := .gap n }).group g').queue = (s.group g').queue ∧
      (((s.setGroup g { s.group g with state := .gap n }).group g').state = .free → (s.group g').state = .free) := by
    intro g'
    rw [State.group_setGroup]
    split
    · next hgg => rw [hgg]; exact ⟨rfl, rfl, nofun⟩
    · exact ⟨rfl, rfl, fun h => h⟩
  exact h.of_waits (s := s) (fun _ => rfl) (fun g' => (hgroup g').1) (h.groups.leaves (x := .gap n) may fun _ h => nomatch h)
    (fun g' => (hgroup g').2.1) fun g' => (hgroup g').2.2

theorem State.QueuesHold.activate {s : State} {i : SlotId} {p : Permit} (h : s.QueuesHold) (here : s.permit i = some p)
    (before : p.state.inService = true) (grip : grips p.state = false) (started : p.state.running = true ∨ s.quenched = false) :
    (s.activate i).QueuesHold := by
  have hgroups := h.groups.activate here before grip started
  obtain ⟨-, hno⟩ := State.free_of_grips here grip
  have hwaits : ∀ {t : State}, (∀ j, t.waitingAt j = if j = i then none else s.waitingAt j) → ∀ j, t.waitingAt j = s.waitingAt j := by
    intro t hw j
    rw [hw]
    split
    · next hj => rw [hj, hno]
    · rfl
  unfold State.activate at hgroups ⊢
  simp only [here] at hgroups ⊢
  split
  · next hg =>
    simp only [hg] at hgroups
    have hc := State.claims_enterActive here false
    exact h.of_waits (hwaits hc.waitingAt) (fun g => by rw [hc.group]) hgroups (fun g => by rw [hc.group]) fun g => by
      rw [hc.group]; exact fun h => h
  next g l hg =>
  simp only [hg] at hgroups
  obtain ⟨hl, hhas⟩ := State.groupedLine_eq_some hg
  split
  · next hnow =>
    rw [if_pos hnow] at hgroups
    have hc := State.claims_enterActive (s := s.setGroup g { s.group g with state := .held l }) here false
    have hgroup : ∀ g', (((s.setGroup g { s.group g with state := .held l }).enterActive i false).group g').members =
          (s.group g').members ∧
        (((s.setGroup g { s.group g with state := .held l }).enterActive i false).group g').queue = (s.group g').queue ∧
        ((((s.setGroup g { s.group g with state := .held l }).enterActive i false).group g').state = .free →
          (s.group g').state = .free) := by
      intro g'
      rw [hc.group, State.group_setGroup]
      split
      · next hgg => rw [hgg]; exact ⟨rfl, rfl, nofun⟩
      · exact ⟨rfl, rfl, fun h => h⟩
    exact h.of_waits (s := s) (hwaits hc.waitingAt) (fun g' => (hgroup g').1) hgroups (fun g' => (hgroup g').2.1)
      fun g' => (hgroup g').2.2
  · next hnow =>
    rw [if_neg hnow] at hgroups
    have hw := State.waits_enterBlocked here grip g
    have hm : s.meets g p.lines := ⟨l, hl, hhas⟩
    refine ⟨hgroups, hw.blockedLaw hm h.blocked, hw.queuesMatch hno hm ?_ h.match_, hw.freeIsEmpty ?_ h.free⟩
    · rintro g' ⟨l', hl', hg'⟩
      exact (h.groups.unique here before hl' hg' hl hhas).1
    · intro hfree
      exact hnow (Group.answersNow_iff.mpr ⟨h.free g hfree, .inl hfree⟩)

theorem State.Change.queuesHold {k : Scope} {s t : State} (h : State.Change k s t) (hs : s.QueuesHold) : t.QueuesHold := by
  have hg := h.groupsHold hs.groups
  obtain hst | ⟨i, hl, -⟩ | ⟨i, p, here, before, grip, started, rfl⟩ | ⟨g, may, rfl⟩ | ⟨g, n, may, rfl⟩ := h.effect
  · have hq := hst.queueLaw (State.queueLaw_iff.mpr ⟨hs.match_, hs.free⟩)
    exact ⟨hg, hst.blockedLaw hs.blocked, (State.queueLaw_iff.mp hq).1, (State.queueLaw_iff.mp hq).2⟩
  · exact ⟨hg, hl.blockedLaw hs.blocked, hl.queuesMatch hs.match_, hl.freeIsEmpty hs.free⟩
  · exact hs.activate here before grip started
  · exact hs.frees may
  · exact hs.gaps may n

/-! ### Happenings -/

section
variable {k : Scope} {s t : State}

theorem State.Via.claimLaw (h : State.Via k s t) (hs : s.ClaimLaw) : t.ClaimLaw := by
  induction h with
  | refl => exact hs
  | tail _ hc ih => exact hc.claimLaw ih

theorem State.Via.groupsHold (h : State.Via k s t) (hs : s.GroupsHold) : t.GroupsHold := by
  induction h with
  | refl => exact hs
  | tail _ hc ih => exact hc.groupsHold ih

theorem State.Via.queuesHold (h : State.Via k s t) (hs : s.QueuesHold) : t.QueuesHold := by
  induction h with
  | refl => exact hs
  | tail _ hc ih => exact hc.queuesHold ih

theorem State.Whole.holdersClaim (h : State.Whole k s t) (hs : s.HoldersClaim) : t.HoldersClaim := by
  induction h with
  | refl => exact hs
  | change _ hc ih => exact hc.holdersClaim ih
  | batch => exact State.holdersClaim_releaseGroups _

end

end Sys2Proof.Machine
end

section
/-! SUPPORT. The ends of one happening, each taken once (R63, R107, R114), the retirements of a teardown (R150, R154), and the grants
of a release (R94): what each leaves in every slot. -/

namespace Sys2Proof.Machine

set_option Elab.async false

/-! ### References that retirements drop (R2) -/

/-- A handle is the current handle of a slot among those named. -/
abbrev State.handleIn (s : State) (gone : SlotId → Bool) (h : Handle) : Prop := s.handle h.slot = h ∧ gone h.slot = true

/-- What the retirement of some slots leaves of an orphan's trigger (R7). -/
def dropTrigger (gone : Handle → Prop) [DecidablePred gone] (x : Trigger) : Trigger :=
  match x with
  | .chain (some h) => if gone h then .chain none else x
  | _ => x

/-- What the retirement of some slots leaves of an orphan's gate (R7). -/
def dropGate (gone : Handle → Prop) [DecidablePred gone] (x : Option Handle) : Option Handle :=
  match x with
  | some h => if gone h then none else x
  | none => none

theorem State.unreferenced_orphan {s : State} {gone : SlotId → Bool} {q : Permit} (ho : q.owner = none) : s.unreferenced gone q =
    { q with
      trigger := dropTrigger (fun h => s.handle h.slot = h ∧ gone h.slot = true) q.trigger
      gate := dropGate (fun h => s.handle h.slot = h ∧ gone h.slot = true) q.gate } := by
  rw [State.unreferenced, if_neg (by simp [ho])]; rfl

theorem dropTrigger_congr {P Q : Handle → Prop} [DecidablePred P] [DecidablePred Q] (h : ∀ x, P x ↔ Q x) (y : Trigger) :
    dropTrigger P y = dropTrigger Q y := by
  rcases y with _ | ⟨n, e⟩ | (_ | x) <;> simp [dropTrigger, h]

theorem dropGate_congr {P Q : Handle → Prop} [DecidablePred P] [DecidablePred Q] (h : ∀ x, P x ↔ Q x) (y : Option Handle) :
    dropGate P y = dropGate Q y := by
  rcases y with _ | x <;> simp [dropGate, h]

theorem State.unreferenced_congr {s t : State} {gone gone' : SlotId → Bool} (h : ∀ x, s.handleIn gone x ↔ t.handleIn gone' x)
    (q : Permit) : s.unreferenced gone q = t.unreferenced gone' q := by
  by_cases ho : q.owner = none
  · rw [State.unreferenced_orphan ho, State.unreferenced_orphan ho, dropTrigger_congr h, dropGate_congr h]
  · rw [State.unreferenced_owned ho, State.unreferenced_owned ho]

/-- A retirement before other retirements. -/
theorem State.unreferenced_dropReference {s t : State} {gone gone' : SlotId → Bool} {x : Handle}
    (h : ∀ y, s.handleIn gone y ↔ y = x ∨ t.handleIn gone' y) (q : Permit) :
    t.unreferenced gone' (q.dropReference x) = s.unreferenced gone q := by
  by_cases ho : q.owner = none
  · rw [Permit.dropReference_orphan x ho, State.unreferenced_orphan (by exact ho), State.unreferenced_orphan ho, dropTrigger_congr h,
      dropGate_congr h]
    have htrig : dropTrigger (fun h => t.handle h.slot = h ∧ gone' h.slot = true)
        (if q.trigger = .chain (some x) then .chain none else q.trigger) =
        dropTrigger (fun y => y = x ∨ t.handleIn gone' y) q.trigger := by
      rcases q.trigger with _ | ⟨n, e⟩ | (_ | y)
      · rfl
      · rfl
      · rfl
      · by_cases hy : y = x <;> simp [dropTrigger, State.handleIn, hy]
    have hgate : dropGate (fun h => t.handle h.slot = h ∧ gone' h.slot = true) (if q.gate = some x then none else q.gate) =
        dropGate (fun y => y = x ∨ t.handleIn gone' y) q.gate := by
      rcases q.gate with _ | y
      · rfl
      · by_cases hy : y = x <;> simp [dropGate, State.handleIn, hy]
    simp only [htrig, hgate]
  · rw [Permit.dropReference_owned x ho, State.unreferenced_owned ho, State.unreferenced_owned ho]

@[simp] theorem State.owner_unreferenced (s : State) (gone : SlotId → Bool) (q : Permit) :
    (s.unreferenced gone q).owner = q.owner := by
  unfold State.unreferenced; split <;> rfl

@[simp] theorem State.state_unreferenced (s : State) (gone : SlotId → Bool) (q : Permit) :
    (s.unreferenced gone q).state = q.state := by
  unfold State.unreferenced; split <;> rfl

/-! ### One end (R38) -/

/-- One end of a happening of several (R63). -/
def State.endOne (s : State) (i : SlotId) (r : EndReason) : State := ((s.enterEnded i r).raise i .ended).retireIfOrphan i

/-- The successors that an end puts among those still to end. -/
def State.upstreamOf (s : State) (i : SlotId) (r : EndReason) (rest : List (SlotId × EndReason)) : List (SlotId × EndReason) :=
  ((((s.enterEnded i r).raise i .ended).waitingSuccessors (s.handle i)).filter fun j => !rest.any fun w => w.1 = j).map
    fun j => (j, .upstream)

theorem State.permit_enterEnded_any {s : State} {i : SlotId} {p : Permit} (here : s.permit i = some p) (r : EndReason) :
    ((s.enterEnded i r).raise i .ended).permit i = some ((p.stoppedBy r).raised .ended) :=
  State.permit_raise _ (State.permit_enterEnded r here)

theorem Permit.raised_ended_of_owned {p : Permit} (ho : p.owner ≠ none) (r : EndReason) :
    (p.stoppedBy r).raised .ended = p.endedBy r := by
  have : (p.stoppedBy r).reports .ended = true := rfl
  rw [Permit.raised, if_pos ⟨ho, this⟩]; rfl

/-- The slot of a permit that ends: ENDED with its reason, or for an orphan EMPTY in the next generation (R38, R153). -/
def Slot.endedBy (x : Slot) (r : EndReason) : Slot :=
  match x.permit with
  | none => x
  | some p => if p.owner = none then { gen := x.gen + 1, permit := none } else { x with permit := some (p.endedBy r) }

theorem State.slot_of {s : State} {i : SlotId} {p : Option Permit} (h : s.permit i = p) : s.slot i = { gen := (s.slot i).gen, permit := p } := by
  cases hs : s.slot i
  simp only [State.permit, hs] at h
  rw [h]

/-- The slots after one end. -/
theorem State.slot_endOne {s : State} {i : SlotId} {p : Permit} (here : s.permit i = some p) (r : EndReason) (j : SlotId) :
    (s.endOne i r).slot j = if j = i then (s.slot i).endedBy r
      else { s.slot j with permit := (s.permit j).map fun q => if p.owner = none then q.dropReference (s.handle i) else q } := by
  have hended := State.permit_enterEnded_any here r
  have hslot : ∀ j, j ≠ i → ((s.enterEnded i r).raise i .ended).slot j = s.slot j := fun j hj => by
    rw [State.slot_raise _ (Ne.symm hj), State.slot_enterEnded _ (Ne.symm hj)]
  have hhandle : ((s.enterEnded i r).raise i .ended).handle i = s.handle i := by
    rw [State.handle_raise, State.handle, State.gen_enterEnded]; rfl
  have hgen : (((s.enterEnded i r).raise i .ended).slot i).gen = (s.slot i).gen := congrArg Handle.gen hhandle
  unfold State.endOne State.retireIfOrphan
  rw [hended]
  dsimp only
  have howner : ((p.stoppedBy r).raised .ended).owner = p.owner := Permit.owner_raised ..
  by_cases ho : p.owner = none
  · rw [howner, ho]
    dsimp only
    rw [State.slot_retire_any hended, hhandle, hgen]
    by_cases hj : j = i
    · subst hj
      rw [if_pos rfl, if_pos rfl, Slot.endedBy, show (s.slot j).permit = some p from here, ]
      simp only [ho, if_true]
    · rw [if_neg (Ne.symm hj), if_neg hj, State.permit, hslot j hj]
      rfl
  · obtain ⟨o, ho'⟩ := Option.ne_none_iff_exists'.mp ho
    rw [howner, ho']
    dsimp only
    by_cases hj : j = i
    · subst hj
      rw [if_pos rfl, State.slot_of hended, hgen, Permit.raised_ended_of_owned ho, Slot.endedBy,
        show (s.slot j).permit = some p from here]
      simp only [ho, if_false]
    · rw [if_neg hj, hslot j hj]
      simp [State.permit]

/-! ### The ends of a happening (R63, R107, R114) -/

/-- The permit in a slot is in ARMING or ARMED. -/
def State.awaiting (s : State) (j : SlotId) : Bool := (s.permit j).any fun p => p.state.awaitingTrigger

/-- The ends of one happening, in some order, until none is left. -/
inductive State.Ending : List (SlotId × EndReason) → State → State → Prop
  | done (s : State) : State.Ending [] s s
  | step {work rest : List (SlotId × EndReason)} {i : SlotId} {r : EndReason} {s t : State} (perm : work.Perm ((i, r) :: rest))
      (next : State.Ending (rest ++ s.upstreamOf i r rest) (s.endOne i r) t) : State.Ending work s t

theorem takeLeast_eq_none {α : Type} {key : α → Nat} {xs : List α} (h : takeLeast key xs = none) : xs = [] := by
  cases xs with
  | nil => rfl
  | cons x rest =>
    unfold takeLeast at h
    split at h
    · cases h
    · split at h <;> cases h

theorem takeLeast_perm {α : Type} {key : α → Nat} {xs ys : List α} {y : α} (h : takeLeast key xs = some (y, ys)) :
    xs.Perm (y :: ys) := by
  induction xs generalizing y ys with
  | nil => cases h
  | cons x rest ih =>
    unfold takeLeast at h
    split at h
    · next hn => cases h; rw [takeLeast_eq_none hn]
    · next z zs hz =>
      have hp := ih hz
      split at h
      · cases h; exact hp.cons x
      · cases h; exact (hp.cons x).trans (.swap ..)

/-- The slots at which an end is still to come, or may be put among those to come. -/
def State.mayEnd (s : State) (work : List (SlotId × EndReason)) : List SlotId :=
  allSlots.filter fun j => decide (j ∈ work.map Prod.fst) || s.awaiting j

theorem State.mem_mayEnd {s : State} {work : List (SlotId × EndReason)} {j : SlotId} :
    j ∈ s.mayEnd work ↔ j ∈ work.map Prod.fst ∨ s.awaiting j = true := by
  rw [State.mayEnd, List.mem_filter, Bool.or_eq_true, decide_eq_true_eq]
  exact and_iff_right (List.mem_finRange j)

theorem State.mem_upstreamOf {s : State} {i : SlotId} {r : EndReason} {rest : List (SlotId × EndReason)} {w : SlotId × EndReason} :
    w ∈ s.upstreamOf i r rest ↔ w.2 = .upstream ∧ w.1 ∉ rest.map Prod.fst ∧ ∃ q,
      ((s.enterEnded i r).raise i .ended).permit w.1 = some q ∧ q.trigger = .chain (some (s.handle i)) ∧
        q.state.awaitingTrigger = true := by
  obtain ⟨j, x⟩ := w
  simp only [State.upstreamOf, State.waitingSuccessors_eq, State.successors_eq, List.mem_map, List.mem_filter, Prod.mk.injEq,
    Option.any_eq_true, decide_eq_true_eq, Bool.not_eq_true', List.any_eq_false]
  constructor
  · rintro ⟨j', ⟨⟨⟨-, q, hq, ht⟩, q', hq', ha⟩, hrest⟩, rfl, rfl⟩
    rw [hq] at hq'; cases hq'
    exact ⟨rfl, fun ⟨w, hw, he⟩ => hrest w hw he, q, hq, ht, ha⟩
  · rintro ⟨rfl, hrest, q, hq, ht, ha⟩
    exact ⟨j, ⟨⟨⟨List.mem_finRange j, q, hq, ht⟩, q, hq, ha⟩, fun w hw he => hrest ⟨w, hw, he⟩⟩, rfl, rfl⟩

/-- A permit that ends awaits no trigger. -/
theorem State.not_awaiting_endOne (s : State) (i : SlotId) (r : EndReason) : (s.endOne i r).awaiting i = false := by
  unfold State.awaiting
  cases hp : s.permit i with
  | none =>
    have : (s.endOne i r) = s := by simp [State.endOne, State.enterEnded, State.raise, State.retireIfOrphan, hp]
    rw [this, hp]; rfl
  | some p =>
    rw [State.permit, State.slot_endOne hp, if_pos rfl, Slot.endedBy, show (s.slot i).permit = some p from hp]
    by_cases ho : p.owner = none
    · simp only [ho, if_true]; rfl
    · simp only [ho, if_false]; rfl

theorem State.permit_ended_of_ne {s : State} {i j : SlotId} {r : EndReason} (h : j ≠ i) :
    ((s.enterEnded i r).raise i .ended).permit j = s.permit j := by
  rw [State.permit, State.slot_raise _ (Ne.symm h), State.slot_enterEnded _ (Ne.symm h)]; rfl

theorem State.endOne_none {s : State} {i : SlotId} (h : s.permit i = none) (r : EndReason) : s.endOne i r = s := by
  simp [State.endOne, State.enterEnded, State.raise, State.retireIfOrphan, h]

/-- The other permits after an end: as they were, but for references of orphans to an orphan that ended. -/
theorem State.permit_endOne_of_ne {s : State} {i j : SlotId} (r : EndReason) (h : j ≠ i) {q' : Permit}
    (hq : (s.endOne i r).permit j = some q') :
    ∃ q, s.permit j = some q ∧ (q' = q ∨ (q.owner = none ∧ q' = q.dropReference (s.handle i))) := by
  cases hp : s.permit i with
  | none => rw [State.endOne_none hp] at hq; exact ⟨q', hq, .inl rfl⟩
  | some p =>
    rw [State.permit, State.slot_endOne hp, if_neg h] at hq
    obtain ⟨q, hq', rfl⟩ := Option.map_eq_some_iff.mp hq
    refine ⟨q, hq', ?_⟩
    split
    · by_cases ho : q.owner = none
      · exact .inr ⟨ho, rfl⟩
      · exact .inl (Permit.dropReference_owned _ ho)
    · exact .inl rfl

theorem State.awaiting_of_endOne {s : State} {i j : SlotId} {r : EndReason} (h : (s.endOne i r).awaiting j = true) :
    j ≠ i ∧ s.awaiting j = true := by
  have hne : j ≠ i := by rintro rfl; rw [State.not_awaiting_endOne] at h; cases h
  refine ⟨hne, ?_⟩
  obtain ⟨q', hq', ha⟩ := (Option.any_eq_true _ _).mp h
  obtain ⟨q, hq, rfl | ⟨-, rfl⟩⟩ := State.permit_endOne_of_ne r hne hq'
  · rw [State.awaiting, hq]; exact ha
  · rw [State.awaiting, hq]
    rw [Permit.state_dropReference] at ha
    exact ha

/-- What an end puts among those to come is not there yet, and was waiting. -/
theorem State.upstreamOf_fresh {s : State} {i : SlotId} {r : EndReason} {rest : List (SlotId × EndReason)} {w : SlotId × EndReason}
    (h : w ∈ s.upstreamOf i r rest) : w.1 ≠ i ∧ w.1 ∉ rest.map Prod.fst ∧ s.awaiting w.1 = true := by
  obtain ⟨-, hrest, q, hq, -, ha⟩ := State.mem_upstreamOf.mp h
  have hne : w.1 ≠ i := by
    intro he
    rw [he] at hq
    cases hp : s.permit i with
    | none =>
      rw [State.enterEnded_none hp, State.permit_raise_any, if_pos rfl, hp] at hq
      cases hq
    | some p =>
      rw [State.permit_enterEnded_any hp] at hq
      cases hq
      rw [Permit.state_raised] at ha
      cases ha
  rw [State.permit_ended_of_ne hne] at hq
  exact ⟨hne, hrest, by rw [State.awaiting, hq]; exact ha⟩

theorem State.nodup_next {s : State} {i : SlotId} {r : EndReason} {work rest : List (SlotId × EndReason)}
    (hn : (work.map Prod.fst).Nodup) (perm : work.Perm ((i, r) :: rest)) :
    ((rest ++ s.upstreamOf i r rest).map Prod.fst).Nodup ∧ i ∉ (rest ++ s.upstreamOf i r rest).map Prod.fst := by
  have hn' : (i :: rest.map Prod.fst).Nodup := (perm.map Prod.fst).nodup_iff.mp hn
  obtain ⟨hi, hrest⟩ := List.nodup_cons.mp hn'
  have hmore : ∀ j ∈ (s.upstreamOf i r rest).map Prod.fst, j ≠ i ∧ j ∉ rest.map Prod.fst := by
    intro j hj
    obtain ⟨w, hw, rfl⟩ := List.mem_map.mp hj
    exact ⟨(State.upstreamOf_fresh hw).1, (State.upstreamOf_fresh hw).2.1⟩
  rw [List.map_append]
  refine ⟨hrest.append ?_ fun j h1 h2 => (hmore j h2).2 h1, fun h => ?_⟩
  · rw [State.upstreamOf, List.map_map]
    refine List.Nodup.map (fun _ _ h => h) ?_
    rw [State.waitingSuccessors_eq, State.successors_eq]
    exact (((List.nodup_finRange 48).filter _).filter _).filter _
  · obtain h | h := List.mem_append.mp h
    · exact hi h
    · exact (hmore i h).1 rfl

/-- The fuel is enough for the ends that may come, each of which is taken once. -/
theorem State.ending_endAll (key : SlotId → Nat) (fuel : Nat) {work : List (SlotId × EndReason)} {s : State}
    (hn : (work.map Prod.fst).Nodup) (hf : (s.mayEnd work).length ≤ fuel) : State.Ending work s (State.endAll key fuel work s) := by
  induction fuel generalizing work s with
  | zero =>
    have hnil : s.mayEnd work = [] := List.eq_nil_of_length_eq_zero (Nat.le_zero.mp hf)
    have : work = [] := by
      refine List.eq_nil_iff_forall_not_mem.mpr fun w hw => ?_
      have := State.mem_mayEnd (s := s).mpr (.inl (List.mem_map.mpr ⟨w, hw, rfl⟩))
      rw [hnil] at this
      cases this
    subst this
    exact .done s
  | succ n ih =>
    unfold State.endAll
    split
    · next hw => rw [takeLeast_eq_none hw]; exact .done s
    · next i r rest hw =>
      have perm := takeLeast_perm hw
      obtain ⟨hn', hi⟩ := State.nodup_next (s := s) hn perm
      have hmem : i ∈ s.mayEnd work := State.mem_mayEnd.mpr (.inl (List.mem_map.mpr ⟨(i, r), perm.mem_iff.mpr List.mem_cons_self, rfl⟩))
      refine .step perm (ih hn' ?_)
      have hsub : (i :: (s.endOne i r).mayEnd (rest ++ s.upstreamOf i r rest)) ⊆ s.mayEnd work := by
        intro j hj
        obtain rfl | hj := List.mem_cons.mp hj
        · exact hmem
        rw [State.mem_mayEnd] at hj ⊢
        obtain hj | hj := hj
        · obtain ⟨w, hw, rfl⟩ := List.mem_map.mp hj
          obtain hw | hw := List.mem_append.mp hw
          · exact .inl (List.mem_map.mpr ⟨w, perm.mem_iff.mpr (List.mem_cons_of_mem _ hw), rfl⟩)
          · exact .inr (State.upstreamOf_fresh hw).2.2
        · exact .inr (State.awaiting_of_endOne hj).2
      have hnodup : (i :: (s.endOne i r).mayEnd (rest ++ s.upstreamOf i r rest)).Nodup := by
        refine List.nodup_cons.mpr ⟨fun hj => ?_, (List.nodup_finRange 48).filter _⟩
        obtain hj | hj := State.mem_mayEnd.mp hj
        · exact hi hj
        · exact (State.awaiting_of_endOne hj).1 rfl
      have := (hnodup.subperm hsub).length_le
      simp only [List.length_cons] at this
      omega

theorem State.ending_endMany {work : List (SlotId × EndReason)} (hn : (work.map Prod.fst).Nodup) (s : State) :
    State.Ending work s.drawn (s.endMany work) := by
  refine State.ending_endAll _ 48 hn ?_
  have := List.length_filter_le (fun j => decide (j ∈ work.map Prod.fst) || s.drawn.awaiting j) allSlots
  rw [State.mayEnd]
  rwa [show allSlots.length = 48 from List.length_finRange] at this

/-! ### What the ends leave -/

/-- What the ends of a happening leave in every slot, why saying which permits end and for which reason. -/
structure State.EndsBy (s t : State) (work : List (SlotId × EndReason)) (why : SlotId → Option EndReason) : Prop where
  /-- Every end that the happening begins with is taken for its reason. -/
  begins : ∀ w ∈ work, why w.1 = some w.2
  /-- Every other end is that of a waiting successor of a permit that ends (R63). -/
  only : ∀ j r, why j = some r → (j, r) ∈ work ∨ (r = .upstream ∧ ∃ i q, why i ≠ none ∧ s.permit j = some q ∧
    q.state.awaitingTrigger = true ∧ q.trigger = .chain (some (s.handle i)))
  /-- Every waiting successor with an owner of a permit that ends is ended (R63, R64). -/
  closed : ∀ i j q, why i ≠ none → s.permit j = some q → q.owner ≠ none → q.state.awaitingTrigger = true →
    q.trigger = .chain (some (s.handle i)) → why j ≠ none
  slots : ∀ j, t.slot j = match why j with
    | some r => (s.slot j).endedBy r
    | none => { s.slot j with permit := (s.permit j).map (s.unreferenced (s.orphansOf fun k => (why k).isSome)) }

theorem State.gen_endOne_of_ne {s : State} {i j : SlotId} (r : EndReason) (h : j ≠ i) :
    ((s.endOne i r).slot j).gen = (s.slot j).gen := by
  cases hp : s.permit i with
  | none => rw [State.endOne_none hp]
  | some p => rw [State.slot_endOne hp, if_neg h]

theorem State.handle_endOne_of_ne {s : State} {i j : SlotId} (r : EndReason) (h : j ≠ i) :
    (s.endOne i r).handle j = s.handle j := by
  simp only [State.handle, State.gen_endOne_of_ne r h]

theorem State.orphansOf_eq {s : State} {named : SlotId → Bool} {i : SlotId} :
    s.orphansOf named i = true ↔ named i = true ∧ ∃ q, s.permit i = some q ∧ q.owner = none := by
  simp only [State.orphansOf, Bool.and_eq_true, Option.any_eq_true, decide_eq_true_eq]

theorem State.endsBy_done (s : State) : s.EndsBy s [] fun _ => none := by
  refine ⟨fun w hw => (nomatch hw), nofun, fun _ _ _ h => absurd rfl h, fun j => ?_⟩
  have : s.orphansOf (fun _ => (none : Option EndReason).isSome) = fun _ => false := by
    funext k; simp [State.orphansOf]
  simp only [this]
  have hid : (State.unreferenced s fun _ => false) = id := by funext q; exact s.unreferenced_none q
  rw [hid, Option.map_id]
  exact State.slot_of rfl

section
variable {s t : State} {work rest : List (SlotId × EndReason)} {i : SlotId} {r : EndReason} {p : Permit}
  {why : SlotId → Option EndReason}

/-- The permits after one end, but for its own. -/
theorem State.permit_endOne (here : s.permit i = some p) {j : SlotId} (hj : j ≠ i) : (s.endOne i r).permit j =
    (s.permit j).map fun q => if p.owner = none then q.dropReference (s.handle i) else q := by
  rw [State.permit, State.slot_endOne here, if_neg hj]

theorem State.permit_endOne_owned (here : s.permit i = some p) {j : SlotId} (hj : j ≠ i) {q : Permit} (hq : s.permit j = some q)
    (ho : q.owner ≠ none) : (s.endOne i r).permit j = some q := by
  rw [State.permit_endOne here hj, hq, Option.map_some]
  split
  · rw [Permit.dropReference_owned _ ho]
  · rfl

theorem Permit.trigger_dropReference {q : Permit} {h x : Handle} (ht : (q.dropReference h).trigger = .chain (some x)) :
    q.trigger = .chain (some x) := by
  unfold Permit.dropReference at ht
  split at ht
  · exact ht
  · dsimp only at ht
    split at ht
    · cases ht
    · exact ht

/-- A slot that one end leaves and the others reach, or do not reach. -/
theorem State.EndsBy.slot_step (h : (s.endOne i r).EndsBy t (rest ++ s.upstreamOf i r rest) why) (here : s.permit i = some p)
    (hwhy : why i = none) (j : SlotId) : t.slot j = match (if j = i then some r else why j : Option EndReason) with
      | some r => (s.slot j).endedBy r
      | none => { s.slot j with
          permit := (s.permit j).map (s.unreferenced (s.orphansOf fun k => (if k = i then some r else why k : Option EndReason).isSome)) } := by
  have horphan : ∀ k, k ≠ i → (((s.endOne i r).permit k).any fun q => decide (q.owner = none)) =
      ((s.permit k).any fun q => decide (q.owner = none)) := by
    intro k hk
    rw [State.permit_endOne here hk, Option.any_map]
    congr 1; funext q
    split <;> simp
  rw [h.slots]
  by_cases he : j = i
  · subst he
    rw [hwhy, if_pos rfl]
    dsimp only
    rw [State.permit, State.slot_endOne here, if_pos rfl, Slot.endedBy, show (s.slot j).permit = some p from here]
    by_cases ho : p.owner = none
    · simp [ho]
    · simp only [ho, if_false, Option.map_some]
      rw [State.unreferenced_owned (show (p.endedBy r).owner ≠ none from ho)]
  have hper := State.permit_endOne (r := r) here he
  rw [if_neg he]
  cases hx : why j with
  | some x =>
    dsimp only
    rw [State.slot_of hper, State.gen_endOne_of_ne r he, Slot.endedBy, Slot.endedBy]
    cases hq : (s.slot j).permit with
    | none => rw [State.permit, hq]; cases hs : s.slot j; simp_all
    | some q =>
      rw [State.permit, hq]
      dsimp only [Option.map_some]
      by_cases ho : q.owner = none
      · by_cases hpo : p.owner = none <;> simp [hpo, ho]
      · by_cases hpo : p.owner = none <;> simp [hpo, ho, Permit.dropReference_owned _ ho]
  | none =>
    dsimp only
    rw [hper, Option.map_map, State.gen_endOne_of_ne r he]
    congr 2
    funext q
    simp only [Function.comp_apply]
    by_cases hpo : p.owner = none
    · rw [if_pos hpo]
      refine State.unreferenced_dropReference (fun y => ?_) q
      unfold State.handleIn State.orphansOf
      by_cases hy : y.slot = i
      · have hy' : (y = s.handle i) = (s.handle i = y) := propext eq_comm
        simp [hy, hwhy, here, hpo, hy']
      · have hne' : y ≠ s.handle i := fun h => hy (by rw [h]; rfl)
        simp only [hy, if_false, horphan _ hy, State.handle_endOne_of_ne r hy, hne', false_or]
    · rw [if_neg hpo]
      refine State.unreferenced_congr (fun y => ?_) q
      unfold State.handleIn State.orphansOf
      by_cases hy : y.slot = i
      · simp [hy, hwhy, here, hpo]
      · simp only [hy, if_false, horphan _ hy, State.handle_endOne_of_ne r hy]

/-- One end before the others. -/
theorem State.EndsBy.step (h : (s.endOne i r).EndsBy t (rest ++ s.upstreamOf i r rest) why) (perm : work.Perm ((i, r) :: rest))
    (hn : (work.map Prod.fst).Nodup) (here : s.permit i = some p) :
    s.EndsBy t work fun j => if j = i then some r else why j := by
  obtain ⟨hn', hi⟩ := State.nodup_next (s := s) hn perm
  have hi' : i ∉ rest.map Prod.fst := fun h => hi (by rw [List.map_append]; exact List.mem_append_left _ h)
  have hmem : (i, r) ∈ work := perm.mem_iff.mpr List.mem_cons_self
  have hrest : ∀ w ∈ rest, w ∈ work := fun w hw => perm.mem_iff.mpr (List.mem_cons_of_mem _ hw)
  have hwhy : why i = none := by
    cases hx : why i with
    | none => rfl
    | some x =>
      obtain hw | ⟨-, i', q, -, hq, ha, -⟩ := h.only i x hx
      · exact absurd (List.mem_map.mpr ⟨_, hw, rfl⟩) hi
      · have : (s.endOne i r).awaiting i = true := by rw [State.awaiting, hq]; exact ha
        rw [State.not_awaiting_endOne] at this
        cases this
  refine ⟨fun w hw => ?begins, fun j x hj => ?only, fun i' j q hi'' hq ho ha ht => ?closed, h.slot_step here hwhy⟩
  case begins =>
    obtain he | hw := List.mem_cons.mp (perm.mem_iff.mp hw)
    · rw [he, if_pos rfl]
    · rw [if_neg fun he => hi' (List.mem_map.mpr ⟨w, hw, he⟩)]
      exact h.begins w (List.mem_append_left _ hw)
  case only =>
    split at hj
    · next he => cases hj; rw [he]; exact .inl hmem
    next hne =>
    obtain hw | ⟨rfl, i', q', hi'', hq', ha, ht⟩ := h.only j x hj
    · obtain hw | hw := List.mem_append.mp hw
      · exact .inl (hrest _ hw)
      · obtain ⟨hr, -, q, hq, ht, ha⟩ := State.mem_upstreamOf.mp hw
        rw [State.permit_ended_of_ne hne] at hq
        exact .inr ⟨hr, i, q, by simp, hq, ha, ht⟩
    · have hne' : i' ≠ i := by rintro rfl; exact hi'' hwhy
      rw [State.handle_endOne_of_ne r hne'] at ht
      obtain ⟨q, hq, rfl | ⟨-, rfl⟩⟩ := State.permit_endOne_of_ne r hne hq'
      · exact .inr ⟨rfl, i', q', by simpa [hne'] using hi'', hq, ha, ht⟩
      · exact .inr ⟨rfl, i', q, by simpa [hne'] using hi'', hq, by rwa [Permit.state_dropReference] at ha,
          Permit.trigger_dropReference ht⟩
  case closed =>
    split
    · simp
    next hne =>
    by_cases he : i' = i
    · subst he
      by_cases hr : j ∈ rest.map Prod.fst
      · obtain ⟨w, hw, rfl⟩ := List.mem_map.mp hr
        rw [h.begins w (List.mem_append_left _ hw)]; simp
      · have : (j, EndReason.upstream) ∈ s.upstreamOf i' r rest :=
          State.mem_upstreamOf.mpr ⟨rfl, hr, q, by rw [State.permit_ended_of_ne hne]; exact hq, ht, ha⟩
        rw [h.begins _ (List.mem_append_right _ this)]; simp
    · rw [if_neg he] at hi''
      exact h.closed i' j q hi'' (State.permit_endOne_owned here hne hq ho) ho ha (by rw [State.handle_endOne_of_ne r he]; exact ht)

end

theorem State.Ending.endsBy {work : List (SlotId × EndReason)} {s t : State} (h : State.Ending work s t)
    (hn : (work.map Prod.fst).Nodup) (hp : ∀ w ∈ work, (s.permit w.1).isSome = true) : ∃ why, s.EndsBy t work why := by
  induction h with
  | done s => exact ⟨_, s.endsBy_done⟩
  | @step work rest i r s t perm next ih =>
    obtain ⟨hn', hi⟩ := State.nodup_next (s := s) hn perm
    obtain ⟨p, here⟩ := Option.isSome_iff_exists.mp (hp (i, r) (perm.mem_iff.mpr List.mem_cons_self))
    obtain ⟨why, h⟩ := ih hn' fun w hw => by
      have hne : w.1 ≠ i := fun he => hi (List.mem_map.mpr ⟨w, hw, he⟩)
      rw [State.permit_endOne here hne, Option.isSome_map]
      obtain hw | hw := List.mem_append.mp hw
      · exact hp w (perm.mem_iff.mpr (List.mem_cons_of_mem _ hw))
      · obtain ⟨q, hq, -⟩ := (Option.any_eq_true _ _).mp (State.upstreamOf_fresh hw).2.2
        rw [hq]; rfl
    exact ⟨_, h.step perm hn here⟩

end Sys2Proof.Machine
end

section
/-! SUPPORT. What releases, retirements and teardowns leave in every slot and at every port (R94, R96, R150, R151, R154), and the laws
of owners, lists, references and orphans through a teardown and CLEAR_TABLE. -/

namespace Sys2Proof.Machine

set_option Elab.async false

/-! ### Releases reach BLOCKED permits alone, and grant them (R94, R96) -/

/-- Every slot is as it was, but that a BLOCKED permit may have been granted its group. -/
def State.Grants (s t : State) : Prop :=
  ∀ j : SlotId, t.slot j = s.slot j ∨
    ∃ q, s.permit j = some q ∧ q.state = .blocked ∧ t.slot j = { s.slot j with permit := some q.granted }

theorem State.Grants.refl (s : State) : s.Grants s := fun _ => .inl rfl

theorem State.Grants.of_slots {s t : State} (h : t.slots = s.slots) : s.Grants t := fun j => .inl (State.slot_of_slots h j)

@[simp] theorem Permit.state_granted (q : Permit) : q.granted.state = .active := by
  rw [Permit.granted, Permit.state_raised]

theorem State.Grants.trans {s t u : State} (h : s.Grants t) (k : t.Grants u) : s.Grants u := by
  intro j
  obtain hk | ⟨q, hq, hb, hk⟩ := k j
  · rw [hk]; exact h j
  · obtain hh | ⟨q', hq', -, hh⟩ := h j
    · exact .inr ⟨q, by rw [← hq, State.permit, State.permit, hh], hb, by rw [hk, hh]⟩
    · rw [State.permit, hh] at hq
      cases hq
      rw [Permit.state_granted] at hb
      cases hb

theorem State.grants_letIn {s : State} {g : GroupId} {x : Group} {h : Handle} {p : Permit} (hp : s.blockedPermit h = some p) :
    s.Grants ((s.setGroup g x).enterActive h.slot true) := by
  obtain ⟨hpe, -⟩ := State.blocked_facts hp
  have hb := (State.blockedPermit_eq_some.mp hp).2
  intro j
  by_cases hj : h.slot = j
  · subst hj
    refine .inr ⟨p, hpe, hb, ?_⟩
    have hpe' : (s.setGroup g x).permit h.slot = some p := hpe
    have hent : (((s.setGroup g x).setPermit h.slot (p.enteringActive true)).addClaims p.lines).permit h.slot =
        some (p.enteringActive true) := by simp [State.addClaims]
    have hfin : ((s.setGroup g x).enterActive h.slot true).permit h.slot = some p.granted := by
      unfold State.enterActive
      simp only [hpe', if_true]
      rw [State.permit_raise _ hent]
      rfl
    rw [State.slot_of hfin]
    have hgen : (((s.setGroup g x).enterActive h.slot true).slot h.slot).gen = (s.slot h.slot).gen := by
      unfold State.enterActive
      simp only [hpe', if_true]
      rw [State.gen_raise, State.addClaims, State.slot_mapLines, State.slot_setPermit, if_pos rfl]
      rfl
    rw [hgen]
  · exact .inl (by rw [State.slot_enterActive _ hj]; rfl)

theorem State.grants_grant (s : State) (g : GroupId) : s.Grants (s.grant g) :=
  (State.grant_keeps (P := s.Grants) (.refl s) (fun _ _ _ _ _ hp _ => State.grants_letIn hp)
    fun _ _ _ _ _ ht _ _ hp _ => ht.trans (State.grants_letIn hp)).1

theorem State.grants_frees (s : State) (g : GroupId) (x : Group) : s.Grants ((s.setGroup g x).grant g) :=
  (State.Grants.of_slots (t := s.setGroup g x) rfl).trans (State.grants_grant _ g)

theorem State.grants_releaseGroup (s : State) (g : GroupId) : s.Grants (s.releaseGroup g) := by
  unfold State.releaseGroup
  dsimp only
  split
  · exact s.grants_frees g _
  · exact .of_slots rfl

theorem State.grants_releaseGroups (s : State) : s.Grants s.releaseGroups :=
  foldl_keeps (P := s.Grants) (fun t g ht => by
    split
    · exact ht.trans (t.grants_releaseGroup g)
    · exact ht) _ (State.Grants.of_slots (t := s.drawn) rfl)

/-! ### Retirements of several permits (R2, R150, R154) -/

/-- The slots after a permit is stopped and retired. -/
theorem State.slot_stopAndRetire {s : State} {i : SlotId} {p : Permit} (here : s.permit i = some p) (j : SlotId) :
    (s.stopAndRetire i).slot j = if i = j then { gen := (s.slot i).gen + 1, permit := none }
      else { s.slot j with permit := (s.permit j).map (Permit.dropReference (s.handle i)) } := by
  rw [State.stopAndRetire, State.slot_retire_any (by rw [State.permit_detach]; exact here), State.slot_detach, State.slot_detach,
    State.permit_detach, State.handle_detach]

theorem State.port_detach (s : State) (i : SlotId) (x : Port) : (s.detach i).port x = s.port x := by
  unfold State.detach
  split
  · rfl
  · split <;> simp [State.removeClaims, State.leaveQueues]

/-- The ports after a permit is stopped and retired. -/
theorem State.port_stopAndRetire {s : State} {i : SlotId} {p : Permit} (here : s.permit i = some p) (x : Port) :
    (s.stopAndRetire i).port x = if p.owner.map Owner.port = some x then
      { s.port x with attention := (s.port x).attention.filter (· ≠ .permit (s.handle i)), owned := (s.port x).owned - 1 }
      else s.port x := by
  rw [State.stopAndRetire, State.port_retire (by rw [State.permit_detach]; exact here), State.port_detach, State.handle_detach]

theorem State.handle_stopAndRetire {s : State} {i j : SlotId} (h : i ≠ j) : (s.stopAndRetire i).handle j = s.handle j := by
  simp only [State.stopAndRetire, State.handle, State.gen_retire_of_ne h, State.slot_detach]

/-- The slots after several permits are stopped and retired (R2, R7). -/
theorem State.slot_scrapAll {xs : List SlotId} {s : State} (hn : xs.Nodup) (hp : ∀ i ∈ xs, (s.permit i).isSome = true) (j : SlotId) :
    (xs.foldl State.stopAndRetire s).slot j = if j ∈ xs then { gen := (s.slot j).gen + 1, permit := none }
      else { s.slot j with permit := (s.permit j).map (s.unreferenced fun k => decide (k ∈ xs)) } := by
  induction xs generalizing s with
  | nil =>
    have hid : (s.unreferenced fun k => decide (k ∈ ([] : List SlotId))) = id := by
      funext q
      rw [show (fun k : SlotId => decide (k ∈ ([] : List SlotId))) = fun _ => false by funext k; simp]
      exact s.unreferenced_none q
    rw [hid, Option.map_id]
    exact State.slot_of rfl
  | cons i rest ih =>
    obtain ⟨hi, hn'⟩ := List.nodup_cons.mp hn
    obtain ⟨p, here⟩ := Option.isSome_iff_exists.mp (hp i List.mem_cons_self)
    have hslot := State.slot_stopAndRetire here
    have hrest : ∀ k ∈ rest, i ≠ k := fun k hk he => hi (he ▸ hk)
    rw [List.foldl_cons, ih hn' fun k hk => by
      rw [State.permit, hslot, if_neg (hrest k hk), Option.isSome_map]
      exact hp k (List.mem_cons_of_mem _ hk)]
    by_cases hij : i = j
    · subst hij
      rw [if_neg hi, if_pos List.mem_cons_self, State.permit, hslot, if_pos rfl]; rfl
    by_cases hj : j ∈ rest
    · rw [if_pos hj, if_pos (List.mem_cons_of_mem _ hj), hslot, if_neg hij]
    · rw [if_neg hj, if_neg (by simp [hj, Ne.symm hij]), State.permit, hslot, if_neg hij]
      dsimp only
      rw [Option.map_map]
      congr 2
      funext q
      refine State.unreferenced_dropReference (fun y => ?_) q
      simp only [State.handleIn, decide_eq_true_eq, List.mem_cons]
      by_cases hy : y.slot = i
      · have : (s.handle i = y) = (y = s.handle i) := propext eq_comm
        simp [hy, hi, this]
      · have hne : y ≠ s.handle i := fun h => hy (by rw [h]; rfl)
        simp only [hy, hne, false_or, State.handle_stopAndRetire (Ne.symm hy)]

/-- The slots among some whose permit is owned on a port. -/
def State.ownedOn (s : State) (xs : List SlotId) (x : Port) : List SlotId :=
  xs.filter fun i => (s.ownerAt i).map Owner.port = some x

theorem State.ownerAt_stopAndRetire {s : State} {i j : SlotId} {p : Permit} (here : s.permit i = some p) (h : i ≠ j) :
    (s.stopAndRetire i).ownerAt j = s.ownerAt j := by
  unfold State.ownerAt
  rw [State.permit, State.slot_stopAndRetire here, if_neg h]
  exact Option.bind_map_owner _ fun q => q.owner_dropReference _

/-- The ports after several permits are stopped and retired (R2). -/
theorem State.port_scrapAll {xs : List SlotId} {s : State} (hn : xs.Nodup) (hp : ∀ i ∈ xs, (s.permit i).isSome = true) (x : Port) :
    (xs.foldl State.stopAndRetire s).port x =
      { s.port x with
        owned := (s.port x).owned - (s.ownedOn xs x).length
        attention := (s.port x).attention.filter fun e => decide (∀ i ∈ s.ownedOn xs x, e ≠ .permit (s.handle i)) } := by
  induction xs generalizing s with
  | nil => simp [State.ownedOn]
  | cons i rest ih =>
    obtain ⟨hi, hn'⟩ := List.nodup_cons.mp hn
    obtain ⟨p, here⟩ := Option.isSome_iff_exists.mp (hp i List.mem_cons_self)
    have hrest : ∀ k ∈ rest, i ≠ k := fun k hk he => hi (he ▸ hk)
    have howned : (s.stopAndRetire i).ownedOn rest x = s.ownedOn rest x :=
      List.filter_congr fun k hk => by rw [State.ownerAt_stopAndRetire here (hrest k hk)]
    have hhandles : ∀ e : Entry, (∀ k ∈ s.ownedOn rest x, e ≠ .permit ((s.stopAndRetire i).handle k)) ↔
        ∀ k ∈ s.ownedOn rest x, e ≠ .permit (s.handle k) := fun e =>
      forall₂_congr fun k hk => by rw [State.handle_stopAndRetire (hrest k (List.mem_of_mem_filter hk))]
    rw [List.foldl_cons, ih hn' fun k hk => by
      rw [State.permit, State.slot_stopAndRetire here, if_neg (hrest k hk), Option.isSome_map]
      exact hp k (List.mem_cons_of_mem _ hk), howned]
    simp only [hhandles]
    rw [State.port_stopAndRetire here]
    by_cases ho : p.owner.map Owner.port = some x
    · have hcons : s.ownedOn (i :: rest) x = i :: s.ownedOn rest x :=
        List.filter_cons_of_pos (by rw [State.ownerAt_of_permit here, ho]; exact decide_eq_true rfl)
      rw [if_pos ho, hcons]
      simp only [List.filter_filter, List.mem_cons, forall_eq_or_imp, List.length_cons, Nat.sub_sub]
      rw [Nat.add_comm 1]
      congr 1
      refine List.filter_congr fun e _ => ?_
      rw [Bool.and_comm, Bool.decide_and]
    · have hcons : s.ownedOn (i :: rest) x = s.ownedOn rest x :=
        List.filter_cons_of_neg (by rw [State.ownerAt_of_permit here]; simpa using ho)
      rw [if_neg ho, hcons]

/-! ### Teardown before its releases (R150, R151) -/

/-- The permit in a slot is one that a teardown of the port's session retires. -/
def State.stoppedOn (s : State) (p : Port) (j : SlotId) : Bool := (s.permit j).any fun q => s.ownedBy p q && !q.outlivesSession

/-- A permit of the session that a teardown leaves runs on without owner and without pending notices (R150). -/
def State.handedOn (s : State) (p : Port) (q : Permit) : Permit := if s.ownedBy p q then { q with owner := none, pending := {} } else q

/-- Teardown before the releases. -/
def State.tornDown (s : State) (p : Port) : State :=
  let made := s.mapSlots fun i x =>
    if i ∈ s.slotsWith fun q => s.ownedBy p q && q.outlivesSession then { x with permit := x.permit.map Permit.orphaned } else x
  let retired := (s.slotsWith fun q => s.ownedBy p q && !q.outlivesSession).foldl State.stopAndRetire made
  retired.setPort p { retired.port p with isOpen := false, owned := 0, attention := [] }

theorem State.teardown_eq (s : State) (p : Port) : s.teardown p = (s.tornDown p).releaseGroups := rfl

theorem State.nodup_slotsWith (s : State) (test : Permit → Bool) : (s.slotsWith test).Nodup := by
  rw [State.slotsWith_eq]; exact (List.nodup_finRange 48).filter _

theorem State.stoppedOn_iff {s : State} {p : Port} {j : SlotId} :
    s.stoppedOn p j = true ↔ j ∈ s.slotsWith fun q => s.ownedBy p q && !q.outlivesSession := by
  rw [State.mem_slotsWith, State.stoppedOn, Option.any_eq_true]

theorem State.slot_tornDown (s : State) (p : Port) (j : SlotId) : (s.tornDown p).slot j =
    if s.stoppedOn p j then { gen := (s.slot j).gen + 1, permit := none }
    else { s.slot j with permit := (s.permit j).map fun q => s.unreferenced (s.stoppedOn p) (s.handedOn p q) } := by
  generalize hm : s.mapSlots (fun i x =>
    if i ∈ s.slotsWith fun q => s.ownedBy p q && q.outlivesSession then { x with permit := x.permit.map Permit.orphaned } else x) = made
  have hgen : ∀ i, (made.slot i).gen = (s.slot i).gen := fun i => by
    rw [← hm, State.slot_mapSlots]; split <;> rfl
  have hper : ∀ i, s.stoppedOn p i = false → made.permit i = (s.permit i).map (s.handedOn p) := by
    intro i hi
    rw [← hm, State.permit_mapSlots]
    cases hq : s.permit i with
    | none =>
      rw [if_neg (by rw [State.mem_slotsWith]; rintro ⟨q, h, -⟩; rw [hq] at h; cases h)]
      exact hq
    | some q =>
      rw [State.stoppedOn, hq, Option.any_some] at hi
      by_cases how : s.ownedBy p q = true
      · have hout : q.outlivesSession = true := by simpa [how] using hi
        rw [if_pos (State.mem_slotsWith.mpr ⟨q, hq, by simp [how, hout]⟩)]
        rw [State.permit] at hq
        rw [hq, Option.map_some, Option.map_some, State.handedOn, if_pos how]
        rfl
      · rw [if_neg, Option.map_some, State.handedOn, if_neg how]
        · exact hq
        · rw [State.mem_slotsWith]
          rintro ⟨q', h, ht⟩
          rw [hq] at h
          cases h
          simp [how] at ht
  have hsome : ∀ i ∈ s.slotsWith fun q => s.ownedBy p q && !q.outlivesSession, (made.permit i).isSome = true := by
    intro i hi
    obtain ⟨q, hq, -⟩ := State.mem_slotsWith.mp hi
    rw [State.permit] at hq
    rw [← hm, State.permit_mapSlots]
    split <;> simp [hq]
  have hslot : (s.tornDown p).slot j =
      ((s.slotsWith fun q => s.ownedBy p q && !q.outlivesSession).foldl State.stopAndRetire made).slot j := by
    rw [← hm]; rfl
  rw [hslot, State.slot_scrapAll (s.nodup_slotsWith _) hsome, hgen]
  by_cases hj : s.stoppedOn p j = true
  · rw [if_pos (State.stoppedOn_iff.mp hj), if_pos hj]
  · rw [if_neg (mt State.stoppedOn_iff.mpr hj), if_neg hj, hper j (by simpa using hj), Option.map_map]
    dsimp only
    rw [hgen]
    congr 2
    funext q
    refine State.unreferenced_congr (fun y => ?_) _
    have hh : made.handle y.slot = s.handle y.slot := by simp only [State.handle, hgen]
    rw [State.handleIn, State.handleIn, hh, decide_eq_true_eq, State.stoppedOn_iff]

theorem State.port_tornDown (s : State) (p x : Port) : (s.tornDown p).port x =
    if x = p then { s.port p with isOpen := false, owned := 0, attention := [] } else s.port x := by
  generalize hm : s.mapSlots (fun i x =>
    if i ∈ s.slotsWith fun q => s.ownedBy p q && q.outlivesSession then { x with permit := x.permit.map Permit.orphaned } else x) = made
  have hport : ∀ y, made.port y = s.port y := fun y => by rw [← hm, State.port_mapSlots]
  have hsome : ∀ i ∈ s.slotsWith fun q => s.ownedBy p q && !q.outlivesSession,
      ∃ q, made.permit i = some q ∧ q.owner = some { port := p, session := (s.port p).session } := by
    intro i hi
    obtain ⟨q, hq, ht⟩ := State.mem_slotsWith.mp hi
    simp only [Bool.and_eq_true, Bool.not_eq_true'] at ht
    refine ⟨q, ?_, of_decide_eq_true ht.1⟩
    rw [← hm, State.permit_mapSlots, if_neg]
    · exact hq
    · rw [State.mem_slotsWith]
      rintro ⟨q', h, ht'⟩
      rw [hq] at h
      cases h
      simp [ht.2] at ht'
  have hfold := State.port_scrapAll (s := made) (s.nodup_slotsWith fun q => s.ownedBy p q && !q.outlivesSession)
    (fun i hi => by obtain ⟨q, hq, -⟩ := hsome i hi; rw [hq]; rfl)
  have htorn : (s.tornDown p).port x = if p = x then
      { ((s.slotsWith fun q => s.ownedBy p q && !q.outlivesSession).foldl State.stopAndRetire made).port p with
        isOpen := false, owned := 0, attention := [] }
      else ((s.slotsWith fun q => s.ownedBy p q && !q.outlivesSession).foldl State.stopAndRetire made).port x := by
    rw [← hm, ← State.port_setPort]; rfl
  rw [htorn, hfold, hfold]
  by_cases hx : p = x
  · subst hx
    rw [if_pos rfl, if_pos rfl, hport]
  · rw [if_neg hx, if_neg (Ne.symm hx), hport]
    have hnone : made.ownedOn (s.slotsWith fun q => s.ownedBy p q && !q.outlivesSession) x = [] := by
      refine List.filter_eq_nil_iff.mpr fun i hi => ?_
      obtain ⟨q, hq, ho⟩ := hsome i hi
      rw [State.ownerAt_of_permit hq, ho]
      simpa using hx
    rw [hnone]
    simp

/-! ### CLEAR_TABLE before its releases (R154) -/

/-- CLEAR_TABLE before the releases. -/
def State.cleared (s : State) : State := (s.slotsWith fun _ => true).foldl State.stopAndRetire s

theorem State.clearAll_eq (s : State) : s.clearAll = s.cleared.releaseGroups := rfl

theorem State.mem_occupied {s : State} {i : SlotId} : (i ∈ s.slotsWith fun _ => true) ↔ (s.permit i).isSome = true := by
  rw [State.mem_slotsWith, Option.isSome_iff_exists]
  simp

theorem State.slot_cleared (s : State) (j : SlotId) : s.cleared.slot j =
    { gen := if (s.permit j).isSome then (s.slot j).gen + 1 else (s.slot j).gen, permit := none } := by
  rw [State.cleared, State.slot_scrapAll (s.nodup_slotsWith _) fun _ hi => State.mem_occupied.mp hi]
  by_cases hj : (s.permit j).isSome = true
  · rw [if_pos (State.mem_occupied.mpr hj), if_pos hj]
  · rw [if_neg (mt State.mem_occupied.mp hj), if_neg hj]
    have : s.permit j = none := by simpa using hj
    rw [this]; rfl

theorem State.permit_cleared (s : State) (j : SlotId) : s.cleared.permit j = none := by
  rw [State.permit, State.slot_cleared]

theorem State.port_cleared (s : State) (x : Port) : s.cleared.port x =
    { s.port x with
      owned := (s.port x).owned - (s.ownedOn (s.slotsWith fun _ => true) x).length
      attention := (s.port x).attention.filter fun e =>
        decide (∀ i ∈ s.ownedOn (s.slotsWith fun _ => true) x, e ≠ .permit (s.handle i)) } :=
  State.port_scrapAll (s.nodup_slotsWith _) (fun _ hi => State.mem_occupied.mp hi) x

/-! ### The lists' law where entries leave with their permits' notices -/

/-- The lists' law where lists lose entries, and permits await accordingly. -/
theorem State.ListLaw.of_filter {s t : State} {keep : Port → Entry → Bool} (h : s.ListLaw)
    (hl : ∀ p, (t.port p).attention = (s.port p).attention.filter (keep p))
    (ha : ∀ p x, t.awaits p x = (s.awaits p x && keep p (.permit x)))
    (ho : ∀ j q', t.permit j = some q' → q'.owner = none → q'.pending = {}) : t.ListLaw := by
  obtain ⟨hlists, -⟩ := h
  refine ⟨fun p => ?_, fun j q' => ho j q'⟩
  obtain ⟨hperm, hline, hquench⟩ := hlists p
  rw [hl]
  refine ⟨fun x => ?_, fun l => ?_, ?_⟩
  · have hx := hperm x
    rw [ha]
    cases hk : keep p (.permit x) with
    | true => rw [List.count_filter hk, hx, Bool.and_true]
    | false =>
      rw [Bool.and_false, if_neg Bool.false_ne_true]
      refine List.count_eq_zero.mpr fun hm => ?_
      rw [List.mem_filter, hk] at hm
      cases hm.2
  · refine le_trans ?_ (hline l)
    rw [List.filter_comm]
    exact List.length_filter_le ..
  · refine le_trans ?_ hquench
    rw [List.filter_comm]
    exact List.length_filter_le ..

/-! ### The laws after a teardown -/

section
variable {s : State} (p : Port)

theorem State.permit_tornDown {j : SlotId} {q' : Permit} (h : (s.tornDown p).permit j = some q') :
    ∃ q, s.permit j = some q ∧ s.stoppedOn p j = false ∧ q' = s.unreferenced (s.stoppedOn p) (s.handedOn p q) := by
  rw [State.permit, State.slot_tornDown] at h
  split at h
  · cases h
  · next hs =>
    obtain ⟨q, hq, rfl⟩ := Option.map_eq_some_iff.mp h
    exact ⟨q, hq, by simpa using hs, rfl⟩

theorem State.owner_handedOn (q : Permit) : (s.handedOn p q).owner =
    if q.owner = some { port := p, session := (s.port p).session } then none else q.owner := by
  unfold State.handedOn State.ownedBy
  simp only [decide_eq_true_eq]
  split <;> rfl

@[simp] theorem State.state_handedOn (q : Permit) : (s.handedOn p q).state = q.state := by
  unfold State.handedOn; split <;> rfl

@[simp] theorem State.references_handedOn (q : Permit) : (s.handedOn p q).references = q.references := by
  unfold State.handedOn; split <;> rfl

/-- A teardown leaves the session nothing, and other owners what they own. -/
theorem State.ownerAt_tornDown (j : SlotId) : (s.tornDown p).ownerAt j =
    if s.ownerAt j = some { port := p, session := (s.port p).session } then none else s.ownerAt j := by
  unfold State.ownerAt
  rw [State.permit, State.slot_tornDown]
  cases hq : s.permit j with
  | none => by_cases h : s.stoppedOn p j = true <;> simp [h]
  | some q =>
    by_cases h : s.stoppedOn p j = true
    · have hstop := h
      rw [State.stoppedOn, hq, Option.any_some, Bool.and_eq_true] at hstop
      have how : q.owner = some { port := p, session := (s.port p).session } := of_decide_eq_true hstop.1
      rw [if_pos h, Option.bind_some, if_pos how]; rfl
    · rw [if_neg h, Option.map_some, Option.bind_some, Option.bind_some, State.owner_unreferenced, State.owner_handedOn]

theorem State.OwnerLaw.tornDown (h : s.OwnerLaw) : (s.tornDown p).OwnerLaw := by
  rw [State.ownerLaw_iff] at h ⊢
  intro i o ho
  rw [State.ownerAt_tornDown] at ho
  split at ho
  · cases ho
  next hne =>
  obtain ⟨h1, h2⟩ := h i o ho
  have hport : o.port ≠ p := by
    rintro rfl
    exact hne (by rw [ho, h2])
  rw [State.port_tornDown, if_neg hport]
  exact ⟨h1, h2⟩

theorem State.CountLaw.tornDown (h : s.CountLaw) : (s.tornDown p).CountLaw := by
  intro x
  have hx := h x
  rw [State.slotsWith_ownedBy] at hx ⊢
  simp only [State.ownerAt_tornDown, State.port_tornDown]
  by_cases hp : x = p
  · subst hp
    simp only [if_true]
    symm
    rw [List.length_eq_zero_iff, List.filter_eq_nil_iff]
    intro i _
    split
    · simp
    · next hne => simpa using hne
  · simp only [if_neg hp, hx]
    congr 1
    refine List.filter_congr fun i _ => ?_
    split
    · next hown => rw [hown]; simp [Ne.symm hp]
    · rfl

theorem State.resolve_tornDown (x : Handle) (r : Permit) (h : s.resolve x = some r) (hs : s.stoppedOn p x.slot = false) :
    (s.tornDown p).resolve x = some (s.unreferenced (s.stoppedOn p) (s.handedOn p r)) := by
  obtain ⟨hx, hr⟩ := State.resolve_eq_some.mp h
  refine State.resolve_eq_some.mpr ⟨?_, ?_⟩
  · rw [State.handle, State.slot_tornDown, hs]; exact hx
  · rw [State.permit, State.slot_tornDown, hs, hr]; rfl

theorem State.mem_references_unreferenced {gone : SlotId → Bool} {q : Permit} {x : Handle}
    (h : x ∈ (s.unreferenced gone q).references) :
    x ∈ q.references ∧ (q.owner = none → ¬s.handleIn gone x) := by
  by_cases ho : q.owner = none
  · rw [State.unreferenced_orphan ho, Permit.mem_references] at h
    rw [Permit.mem_references]
    obtain h | h := h <;> dsimp only at h
    · rcases ht : q.trigger with _ | ⟨n, e⟩ | (_ | y) <;> rw [ht] at h <;> simp only [dropTrigger, reduceCtorEq] at h
      · cases h
      · split at h
        · cases h
        · next hn => cases h; exact ⟨.inl rfl, fun _ => hn⟩
    · rcases ht : q.gate with _ | y <;> rw [ht] at h <;> simp only [dropGate, reduceCtorEq] at h
      split at h
      · cases h
      · next hn => cases h; exact ⟨.inr rfl, fun _ => hn⟩
  · rw [State.unreferenced_owned ho] at h
    exact ⟨h, fun hn => absurd hn ho⟩

theorem State.ReferenceLaw.tornDown (h : s.ReferenceLaw) : (s.tornDown p).ReferenceLaw := by
  intro j q' hq'
  obtain ⟨q, hq, -, rfl⟩ := State.permit_tornDown p hq'
  obtain ⟨href, hpred⟩ := h j q hq
  refine ⟨fun x hx => ?_, fun ho => ?_⟩
  · obtain ⟨hx, hgone⟩ := State.mem_references_unreferenced hx
    rw [State.references_handedOn] at hx
    obtain ⟨r, hr, hro⟩ := Option.map_eq_some_iff.mp (href x hx)
    have hstays : s.stoppedOn p x.slot = false := by
      cases hst : s.stoppedOn p x.slot with
      | false => rfl
      | true =>
        obtain ⟨hxh, hrp⟩ := State.resolve_eq_some.mp hr
        have hst' := hst
        rw [State.stoppedOn, hrp, Option.any_some, Bool.and_eq_true] at hst'
        refine absurd ⟨hxh.symm, hst⟩ (hgone ?_)
        rw [State.owner_handedOn, ← hro, if_pos (of_decide_eq_true hst'.1)]
    rw [State.resolve_tornDown p x r hr hstays, Option.map_some, State.owner_unreferenced, State.owner_unreferenced,
      State.owner_handedOn, State.owner_handedOn, hro]
  · rw [State.owner_unreferenced] at ho
    rw [State.unreferenced_owned ho]
    have hkeep : s.handedOn p q = q := by
      rw [State.owner_handedOn] at ho
      split at ho
      · exact absurd rfl ho
      · next hne => rw [State.handedOn, State.ownedBy, if_neg (by simpa using hne)]
    rw [hkeep] at ho ⊢
    exact hpred ho

theorem State.OrphanLaw.tornDown (h : s.OrphanLaw) : (s.tornDown p).OrphanLaw := by
  intro j q' hq' ho
  obtain ⟨q, hq, hst, rfl⟩ := State.permit_tornDown p hq'
  rw [State.state_unreferenced, State.state_handedOn]
  rw [State.owner_unreferenced, State.owner_handedOn] at ho
  split at ho
  · next hown =>
    have how : s.ownedBy p q = true := decide_eq_true hown
    rw [State.stoppedOn, hq, Option.any_some, how, Bool.true_and, Bool.not_eq_false', Permit.outlivesSession, Bool.and_eq_true] at hst
    exact hst.1
  · exact h j q hq ho

@[simp] theorem State.pending_unreferenced (gone : SlotId → Bool) (q : Permit) :
    (s.unreferenced gone q).pending = q.pending := by
  unfold State.unreferenced; split <;> rfl

theorem State.ListLaw.tornDown (h : s.ListLaw) : (s.tornDown p).ListLaw := by
  refine h.of_filter (keep := fun x _ => decide (x ≠ p)) (fun x => ?_) (fun x hd => ?_) fun j q' hq' ho => ?_
  · rw [State.port_tornDown]
    by_cases hx : x = p <;> simp [hx]
  · rw [Bool.eq_iff_iff, Bool.and_eq_true, decide_eq_true_eq, State.awaits_iff, State.awaits_iff, State.port_tornDown]
    constructor
    · rintro ⟨q', hr, ho, hne⟩
      obtain ⟨hh, hq'⟩ := State.resolve_eq_some.mp hr
      obtain ⟨q, hq, hst, rfl⟩ := State.permit_tornDown p hq'
      rw [State.owner_unreferenced, State.owner_handedOn] at ho
      split at ho
      · cases ho
      next hown =>
      have hkeep : s.handedOn p q = q := by rw [State.handedOn, State.ownedBy, if_neg (by simpa using hown)]
      have hxp : x ≠ p := by
        rintro rfl
        exact hown (by simpa using ho)
      rw [if_neg hxp] at ho
      rw [State.pending_unreferenced, hkeep] at hne
      refine ⟨⟨q, State.resolve_eq_some.mpr ⟨?_, hq⟩, ho, hne⟩, hxp⟩
      rw [State.handle, State.slot_tornDown, hst] at hh
      exact hh
    · rintro ⟨⟨q, hr, ho, hne⟩, hxp⟩
      have hown : q.owner ≠ some { port := p, session := (s.port p).session } := by
        rw [ho]; simp [hxp]
      have hkeep : s.handedOn p q = q := by rw [State.handedOn, State.ownedBy, if_neg (by simpa using hown)]
      have hst : s.stoppedOn p hd.slot = false := by
        rw [State.stoppedOn, State.permit_of_resolve hr, Option.any_some, State.ownedBy, decide_eq_false hown, Bool.false_and]
      refine ⟨_, State.resolve_tornDown p hd q hr hst, ?_, ?_⟩
      · rw [State.owner_unreferenced, hkeep, if_neg hxp, ho]
      · rw [State.pending_unreferenced, hkeep]; exact hne
  · obtain ⟨q, hq, -, rfl⟩ := State.permit_tornDown p hq'
    rw [State.owner_unreferenced, State.owner_handedOn] at ho
    rw [State.pending_unreferenced]
    split at ho
    · next hown => rw [State.handedOn, State.ownedBy, if_pos (decide_eq_true hown)]
    · next hown =>
      rw [State.handedOn, State.ownedBy, if_neg (by simpa using hown)]
      exact h.2 j q hq ho

end

/-! ### The laws after CLEAR_TABLE -/

section
variable {s : State}

/-- The permits owned on a port, counted by their owner's port (R4, R148). -/
theorem State.length_ownedOn (ho : s.OwnerLaw) (hc : s.CountLaw) (x : Port) :
    (s.ownedOn (s.slotsWith fun _ => true) x).length = (s.port x).owned := by
  rw [hc x, State.slotsWith_ownedBy, State.ownedOn, State.slotsWith_eq, List.filter_filter]
  congr 1
  refine List.filter_congr fun i _ => ?_
  rw [Bool.eq_iff_iff, Bool.and_eq_true, decide_eq_true_eq, decide_eq_true_eq]
  constructor
  · rintro ⟨hp, -⟩
    obtain ⟨o, hio, hop⟩ := Option.map_eq_some_iff.mp hp
    obtain ⟨-, hs⟩ := State.ownerLaw_iff.mp ho i o hio
    rw [hio, ← hop, hs]
  · intro hio
    obtain ⟨q, hq, -⟩ := Option.bind_eq_some_iff.mp hio
    exact ⟨by rw [hio]; rfl, by rw [hq]; rfl⟩

theorem State.CountLaw.cleared (hc : s.CountLaw) (ho : s.OwnerLaw) : s.cleared.CountLaw := by
  intro x
  rw [State.slotsWith_eq, State.port_cleared, State.length_ownedOn ho hc]
  simp [State.permit_cleared]

theorem State.ListLaw.cleared (h : s.ListLaw) : s.cleared.ListLaw := by
  refine h.of_filter (keep := fun x e => decide (∀ i ∈ s.ownedOn (s.slotsWith fun _ => true) x, e ≠ .permit (s.handle i)))
    (fun x => by rw [State.port_cleared]) (fun x hd => ?_) fun j q' hq' => ?_
  · have hno : s.cleared.awaits x hd = false := by
      rw [Bool.eq_false_iff, ne_eq, State.awaits_iff]
      rintro ⟨q, hr, -⟩
      have := State.permit_of_resolve hr
      rw [State.permit_cleared] at this
      cases this
    rw [hno]
    symm
    rw [Bool.and_eq_false_iff, Bool.eq_false_iff, ne_eq, State.awaits_iff, decide_eq_false_iff_not]
    by_cases ha : ∃ q, s.resolve hd = some q ∧ q.owner = some { port := x, session := (s.port x).session } ∧ q.pending ≠ {}
    · obtain ⟨q, hr, ho, -⟩ := ha
      obtain ⟨hh, hq⟩ := State.resolve_eq_some.mp hr
      refine .inr fun hall => hall hd.slot (List.mem_filter.mpr ⟨State.mem_occupied.mpr (by rw [hq]; rfl), ?_⟩) (by rw [← hh])
      rw [State.ownerAt_of_permit hq, ho]; simp
    · exact .inl ha
  · rw [State.permit_cleared] at hq'; cases hq'

end

end Sys2Proof.Machine
end

section
/-! SUPPORT. What a command does, as a chain of acts, each with what the command has checked before it: the acts that leave levels
alone, those that move claims and are followed by a settling of the levels, and the settling itself (R84). -/

namespace Sys2Proof.Machine

set_option Elab.async false

/-! ### Orphans run through ends (R153) -/

theorem State.OrphansRun.of_whole {k : Scope} {s t : State} {there : SlotId → Prop} (h : State.Whole k s t)
    (hk : k.endsPermits = false) (ho : s.OrphansRun there) : t.OrphansRun there := h.beats.orphansRun hk ho

theorem State.OrphansRun.retireIfOrphan {s : State} {i : SlotId} (h : s.OrphansRun (· ≠ i)) : (s.retireIfOrphan i).OrphanLaw := by
  rw [State.orphanLaw_iff]
  have hi : ∀ {t : State}, t.OrphansRun (· ≠ i) → (∀ q, t.permit i = some q → q.owner ≠ none) → t.OrphansRun fun _ => True := by
    intro t ht hq j _ q hj ho
    by_cases hji : j = i
    · subst hji; exact absurd ho (hq q hj)
    · exact ht j hji q hj ho
  unfold State.retireIfOrphan
  split
  · next hn => exact hi h fun q hq => by rw [hn] at hq; cases hq
  next p here =>
  split
  · next o ho => exact hi h fun q hq => by rw [here] at hq; cases hq; rw [ho]; nofun
  · next ho =>
    refine hi ((State.Beat.retire (k := .run) here (.inr ho)).orphansRun rfl h) fun q hq => ?_
    rw [State.permit_retire_any here, if_pos rfl] at hq
    cases hq

theorem State.OrphanLaw.enterEnded {s : State} (h : s.OrphansRun fun _ => True) (i : SlotId) (r : EndReason) :
    (s.enterEnded i r).OrphansRun (· ≠ i) := by
  intro j hj q hq ho
  rw [State.permit, State.slot_enterEnded r (Ne.symm hj)] at hq
  exact h j trivial q hq ho

theorem State.OrphansRun.raise {s : State} {there : SlotId → Prop} (h : s.OrphansRun there) (i : SlotId) (n : Notice) :
    (s.raise i n).OrphansRun there := (State.Beat.raise (k := .run) i n).orphansRun rfl h

theorem State.OrphansRun.releaseGroups {s : State} {there : SlotId → Prop} (h : s.OrphansRun there) :
    s.releaseGroups.OrphansRun there := (State.via_releaseGroups (k := .run) s).beats.orphansRun rfl h

theorem State.OrphanLaw.releaseGroups {s : State} (h : s.OrphanLaw) : s.releaseGroups.OrphanLaw :=
  State.orphanLaw_iff.mpr (State.orphanLaw_iff.mp h).releaseGroups

theorem State.OrphanLaw.endAll {key : SlotId → Nat} {fuel : Nat} {work : List (SlotId × EndReason)} {s : State} (h : s.OrphanLaw) :
    (State.endAll key fuel work s).OrphanLaw := by
  induction fuel generalizing work s with
  | zero => exact h
  | succ n ih =>
    unfold State.endAll
    split
    · exact h
    · next i r rest _ => exact ih ((State.OrphanLaw.enterEnded (State.orphanLaw_iff.mp h) i r).raise i .ended).retireIfOrphan

theorem State.OrphanLaw.endMany {work : List (SlotId × EndReason)} {s : State} (h : s.OrphanLaw) : (s.endMany work).OrphanLaw :=
  State.OrphanLaw.endAll (s := s.drawn) h

theorem State.OrphanLaw.endAbnormal {s : State} (h : s.OrphanLaw) (i : SlotId) (r : EndReason) : (s.endAbnormal i r).OrphanLaw := by
  unfold State.endAbnormal
  split
  · exact (((State.OrphanLaw.enterEnded (State.orphanLaw_iff.mp h) i r).releaseGroups).raise i .ended).retireIfOrphan
  · exact h.endMany.releaseGroups

theorem State.OrphanLaw.endNormal {s : State} (h : s.OrphanLaw) (i : SlotId) (r : EndReason) : (s.endNormal i r).OrphanLaw := by
  unfold State.endNormal
  dsimp only
  refine State.OrphansRun.retireIfOrphan (foldl_keeps (P := (State.OrphansRun · (· ≠ i))) (fun t j ht => ?_) _ ?_)
  · exact ht.of_whole (State.whole_takeTrigger (k := .stop) rfl t j) rfl
  · exact ((State.OrphanLaw.enterEnded (State.orphanLaw_iff.mp h) i r).releaseGroups).raise i .ended

theorem State.OrphanLaw.of_whole {k : Scope} {s t : State} (ho : s.OrphanLaw) (h : State.Whole k s t)
    (hk : k.endsPermits = false) : t.OrphanLaw :=
  State.orphanLaw_iff.mpr ((State.orphanLaw_iff.mp ho).of_whole h hk)

/-- A record that keeps its owner and goes on running keeps the orphans' law. -/
theorem State.OrphanLaw.setPermit {s : State} {i : SlotId} {p p' : Permit} (h : s.OrphanLaw) (here : s.permit i = some p)
    (ho : p'.owner = p.owner) (hr : p.state.running = true → p'.state.running = true) : (s.setPermit i p').OrphanLaw := by
  intro j q hq hown
  rw [State.permit_setPermit] at hq
  split at hq
  · next hij => cases hq; subst hij; exact hr (h i p here (ho ▸ hown))
  · exact h j q hq hown

theorem State.OrphanLaw.permitTick {s : State} (h : s.OrphanLaw) (i : SlotId) : (s.permitTick i).OrphanLaw := by
  cases hp : s.permit i with
  | none => simp only [State.permitTick, hp]; exact h
  | some p =>
    have hcount : (s.setPermit i p.countHold).OrphanLaw := h.setPermit hp rfl fun h => h
    unfold State.permitTick
    simp only [hp]
    have hphase : (if p.remaining ≤ 1 then (s.setPermit i { p with remaining := p.remaining - 1 }).activate i
        else s.setPermit i { p with remaining := p.remaining - 1 }).OrphanLaw ∨ ¬(countsPhase p.state = true ∧ grips p.state = false) := by
      by_cases hc : countsPhase p.state = true ∧ grips p.state = false
      · obtain ⟨hs, hg⟩ := hc
        have hrun := PState.running_of_countsPhase hs
        refine .inl ?_
        split
        · exact h.of_whole (State.via_activate hp (PState.inService_of_running hrun) hg (.inl hrun) _).whole (k := .run) rfl
        · exact h.setPermit hp rfl fun h => h
      · exact .inr hc
    split
    · exact h
    · exact h
    · exact h
    · next hs => exact h.setPermit hp rfl (by rw [hs]; nofun)
    · next hs => exact hphase.resolve_right (by rw [hs]; simp [countsPhase, grips])
    · next hs => exact hphase.resolve_right (by rw [hs]; simp [countsPhase, grips])
    · next hs =>
      split
      · unfold State.holdEnd
        split
        · exact hcount.endNormal i .completed
        · split
          · exact hcount.endNormal i .completed
          · next rest _ _ _ =>
            have : ((((s.setPermit i p.countHold).removeClaims p.lines)).setPermit i
                { p.countHold with state := .resting, remaining := rest }).OrphanLaw :=
              State.OrphanLaw.setPermit (s := (s.setPermit i p.countHold).removeClaims p.lines) (p := p.countHold)
                ((State.orphanLaw_iff.mpr ((State.beat_removeClaims (k := .run) _ _).orphansRun rfl
                  (State.orphanLaw_iff.mp hcount)))) (by simp [State.removeClaims]) rfl fun _ => rfl
            exact this.releaseGroups
        · exact hcount.endAbnormal i .expired
      · exact hcount
    · unfold State.blockedTickAt
      split
      · exact h
      · have haged : (s.setPermit i { p with blockedAge := p.blockedAge + 1 }).OrphanLaw := h.setPermit hp rfl fun h => h
        dsimp only
        split
        · exact haged.endAbnormal i .starved
        · exact haged

theorem State.OrphanLaw.takeRenewal {s : State} (h : s.OrphanLaw) (i : SlotId) : (s.takeRenewal i).OrphanLaw := by
  unfold State.takeRenewal
  split
  · exact h
  next p hp =>
  split
  · split
    · exact h.endAbnormal i _
    · exact h.setPermit hp rfl fun h => h
  · exact h

end Sys2Proof.Machine
end

section
/-! SUPPORT. The acts of the commands: what each writes where no permit moves, and what it has checked before it. -/

namespace Sys2Proof.Machine

set_option Elab.async false

/-! ### Users of ticks and receivers of edges (R121, R131) -/

theorem State.mem_tickUsers {s : State} {k : TimebaseId} {d : Due} : d ∈ s.tickUsers k ↔
    (∃ i q, d = .permitTick (s.handle i) ∧ s.permit i = some q ∧ q.timebase = k ∧ q.state.inService = true) ∨
    (∃ g, d = .groupTick k g ∧ (s.group g).timebase = k) ∨
    (∃ l, d = .lineTick k l ∧ (s.line l).checkTimebase = k ∧ (s.line l).senseOn = true) ∨
    ∃ tb, d = .sourceTick k tb ∧ (s.timebase tb).source = .tick k ∧ (s.timebase tb).running = true := by
  have hpermit : ∀ i, (match s.permit i with
      | none => none
      | some p => if p.timebase = k ∧ p.state.inService then some (.permitTick (s.handle i)) else none) = some d ↔
      ∃ q, d = .permitTick (s.handle i) ∧ s.permit i = some q ∧ q.timebase = k ∧ q.state.inService = true := by
    intro i
    cases s.permit i with
    | none => simp
    | some p =>
      simp only [Option.ite_none_right_eq_some, Option.some.injEq]
      constructor
      · rintro ⟨⟨h1, h2⟩, rfl⟩; exact ⟨p, rfl, rfl, h1, h2⟩
      · rintro ⟨q, rfl, rfl, h1, h2⟩; exact ⟨⟨h1, h2⟩, rfl⟩
  simp only [State.tickUsers, List.mem_append, List.mem_filterMap, allSlots, allGroups, allLines, allTimebases, List.mem_finRange,
    true_and, Option.ite_none_right_eq_some, Option.some.injEq, or_assoc]
  refine or_congr (exists_congr fun i => hpermit i) (or_congr (exists_congr fun g => ?_) (or_congr (exists_congr fun l => ?_)
    (exists_congr fun tb => ?_)))
  · rw [and_comm, eq_comm]
  · rw [and_comm, eq_comm]
  · rw [and_comm, eq_comm]

theorem State.mem_edgeReceivers {s : State} {n : InputId} {rising : Bool} {d : Due} : d ∈ s.edgeReceivers n rising ↔
    (∃ i q e, d = .trigger (s.handle i) ∧ s.permit i = some q ∧ q.trigger = .input n e ∧ e.takes rising = true ∧
      q.state.inService = true) ∨
    (∃ i q e m, d = .renewal (s.handle i) ∧ s.permit i = some q ∧ q.shape = .lease (.input n e) m ∧ e.takes rising = true ∧
      q.state.inService = true) ∨
    ∃ tb e, d = .sourceEdge n rising tb ∧ (s.timebase tb).source = .edge n e ∧ e.takes rising = true ∧
      (s.timebase tb).running = true := by
  have htrigger : ∀ i, (match s.permit i with
      | none => none
      | some p =>
        match p.trigger with
        | .input m e => if m = n ∧ e.takes rising ∧ p.state.inService then some (.trigger (s.handle i)) else none
        | .soft => none
        | .chain _ => none) = some d ↔
      ∃ q e, d = .trigger (s.handle i) ∧ s.permit i = some q ∧ q.trigger = .input n e ∧ e.takes rising = true ∧
        q.state.inService = true := by
    intro i
    cases s.permit i with
    | none => simp
    | some p =>
      cases ht : p.trigger with
      | soft => simp [ht]
      | chain h => simp [ht]
      | input m e =>
        simp only [ht, Option.ite_none_right_eq_some, Option.some.injEq]
        constructor
        · rintro ⟨⟨rfl, h2, h3⟩, rfl⟩; exact ⟨p, e, rfl, rfl, ht, h2, h3⟩
        · rintro ⟨q, e', rfl, rfl, h1, h2, h3⟩
          rw [ht] at h1
          cases h1
          exact ⟨⟨rfl, h2, h3⟩, rfl⟩
  have hrenewal : ∀ i, (match s.permit i with
      | none => none
      | some p =>
        match p.shape with
        | .lease (.input m e) _ => if m = n ∧ e.takes rising ∧ p.state.inService then some (.renewal (s.handle i)) else none
        | .lease .port _ => none
        | .pulse => none
        | .train _ _ => none) = some d ↔
      ∃ q e m, d = .renewal (s.handle i) ∧ s.permit i = some q ∧ q.shape = .lease (.input n e) m ∧ e.takes rising = true ∧
        q.state.inService = true := by
    intro i
    cases s.permit i with
    | none => simp
    | some p =>
      rcases ht : p.shape with _ | ⟨_, _⟩ | ⟨_ | ⟨m, e⟩, w⟩
      · simp [ht]
      · simp [ht]
      · simp [ht]
      · simp only [ht, Option.ite_none_right_eq_some, Option.some.injEq]
        constructor
        · rintro ⟨⟨rfl, h2, h3⟩, rfl⟩; exact ⟨p, e, w, rfl, rfl, ht, h2, h3⟩
        · rintro ⟨q, e', w', rfl, rfl, h1, h2, h3⟩
          rw [ht] at h1
          cases h1
          exact ⟨⟨rfl, h2, h3⟩, rfl⟩
  have hsource : ∀ tb, (match (s.timebase tb).source with
      | .edge m e => if m = n ∧ e.takes rising ∧ (s.timebase tb).running then some (Due.sourceEdge n rising tb) else none
      | .refclk => none
      | .tick _ => none) = some d ↔
      ∃ e, d = .sourceEdge n rising tb ∧ (s.timebase tb).source = .edge n e ∧ e.takes rising = true ∧
        (s.timebase tb).running = true := by
    intro tb
    cases ht : (s.timebase tb).source with
    | refclk => simp
    | tick k => simp
    | edge m e =>
      simp only [Option.ite_none_right_eq_some, Option.some.injEq]
      constructor
      · rintro ⟨⟨rfl, h2, h3⟩, rfl⟩; exact ⟨e, rfl, rfl, h2, h3⟩
      · rintro ⟨e', rfl, h1, h2, h3⟩
        cases h1
        exact ⟨⟨rfl, h2, h3⟩, rfl⟩
  simp only [State.edgeReceivers, List.mem_append, List.mem_filterMap, allSlots, allTimebases, List.mem_finRange, true_and, or_assoc]
  exact or_congr (exists_congr htrigger) (or_congr (exists_congr hrenewal) (exists_congr hsource))

/-! ### The timebases' law and the due law where a timebase is written (R118 to R127) -/

/-- A timebase in its ranges (R118, R120). -/
structure Timebase.InRange (x : Timebase) : Prop where
  divisor : 1 ≤ x.divisor ∧ x.divisor ≤ 65536
  count : 1 ≤ x.count ∧ x.count ≤ 65536
  pending : ∀ d ∈ x.pendingDivisor, 1 ≤ d ∧ d ≤ 65536
  within : x.running = true → x.count ≤ x.divisor
  stopped : x.running = false → x.pendingDivisor = none

theorem State.TimebaseLaw.inRange {s : State} (h : s.TimebaseLaw) (k : TimebaseId) : (s.timebase k).InRange := by
  obtain ⟨h1, h2, h3, h4, h5, h6, h7, -⟩ := h.1 k
  exact ⟨⟨h1, h2⟩, ⟨h3, h4⟩, h5, h6, h7⟩

theorem State.TimebaseLaw.source {s : State} (h : s.TimebaseLaw) {k j : TimebaseId} (hs : (s.timebase k).source = .tick j) :
    j < k ∧ ((s.timebase k).running = true → (s.timebase j).running = true) := (h.1 k).2.2.2.2.2.2.2 j hs

/-- A timebase written in its ranges, with a source that may drive it, and not stopped under a user that depends on it. -/
theorem State.TimebaseLaw.setTimebase {s : State} {k : TimebaseId} {x : Timebase} (h : s.TimebaseLaw) (hx : x.InRange)
    (hsource : ∀ j, x.source = .tick j → j < k ∧ (x.running = true → (s.timebase j).running = true))
    (hstop : x.running = true ∨ (s.timebase k).running = false ∨ s.hasDependent k = false) : (s.setTimebase k x).TimebaseLaw := by
  have hdep : x.running = true ∨ ((∀ i p, s.permit i = some p → p.state.inService = true → p.timebase ≠ k) ∧
      ∀ j, (s.timebase j).source = .tick k → (s.timebase j).running = false) := by
    obtain hr | hr | hd := hstop
    · exact .inl hr
    · refine .inr ⟨fun i p hp hs hk => ?_, fun j hj => ?_⟩
      · have := h.2 i p hp hs
        rw [hk, hr] at this
        cases this
      · cases hj' : (s.timebase j).running with
        | false => rfl
        | true => exact absurd ((h.source hj).2 hj') (by simp [hr])
    · simp only [State.hasDependent, Bool.or_eq_false_iff, Bool.not_eq_false', List.isEmpty_iff, List.any_eq_false] at hd
      obtain ⟨⟨⟨hslots, -⟩, -⟩, htb⟩ := hd
      refine .inr ⟨fun i p hp hs hk => ?_, fun j hj => ?_⟩
      · have : i ∈ s.slotsWith fun q => q.timebase = k && q.state.inService := State.mem_slotsWith.mpr ⟨p, hp, by simp [hk, hs]⟩
        rw [hslots] at this
        cases this
      · simpa [hj] using htb j (List.mem_finRange j)
  refine ⟨fun j => ?_, fun i p hp hs => ?_⟩
  · rw [State.timebase_setTimebase]
    split
    · next hkj =>
      subst hkj
      refine ⟨hx.divisor.1, hx.divisor.2, hx.count.1, hx.count.2, hx.pending, hx.within, hx.stopped, fun j hj => ?_⟩
      obtain ⟨hlt, hrun⟩ := hsource j hj
      refine ⟨hlt, fun hr => ?_⟩
      rw [State.timebase_setTimebase, if_neg (ne_of_gt hlt)]
      exact hrun hr
    · obtain ⟨h1, h2, h3, h4, h5, h6, h7, h8⟩ := h.1 j
      refine ⟨h1, h2, h3, h4, h5, h6, h7, fun j' hj' => ?_⟩
      obtain ⟨hlt, hrun⟩ := h8 j' hj'
      refine ⟨hlt, fun hr => ?_⟩
      rw [State.timebase_setTimebase]
      split
      · next hk =>
        subst hk
        obtain hx | ⟨-, hno⟩ := hdep
        · exact hx
        · rw [hno j hj'] at hr; cases hr
      · exact hrun hr
  · rw [State.timebase_setTimebase]
    split
    · next hk =>
      obtain hx | ⟨hno, -⟩ := hdep
      · exact hx
      · exact absurd hk.symm (hno i p hp hs)
    · exact h.2 i p hp hs

/-- What may be due may still be where a RUNNING timebase stays so with its source. -/
theorem State.mayBeDue_setTimebase {s : State} {k : TimebaseId} {x : Timebase}
    (hx : (s.timebase k).running = true → x.running = true ∧ x.source = (s.timebase k).source) {d : Due} (h : s.mayBeDue d) :
    (s.setTimebase k x).mayBeDue d := by
  have hrun : ∀ j, (s.timebase j).running = true → ((s.setTimebase k x).timebase j).running = true ∧
      ((s.setTimebase k x).timebase j).source = (s.timebase j).source := by
    intro j hj
    rw [State.timebase_setTimebase]
    split
    · next hk => subst hk; exact hx hj
    · exact ⟨hj, rfl⟩
  cases d with
  | permitTick => exact h
  | groupTick j g => exact ⟨h.1, (hrun j h.2).1⟩
  | lineTick j l => exact ⟨h.1, h.2.1, (hrun j h.2.2).1⟩
  | sourceTick j tb => exact ⟨(hrun tb h.2).2.trans h.1, (hrun tb h.2).1⟩
  | sourceEdge n rising tb =>
    obtain ⟨hr, e, hs, he⟩ := h
    exact ⟨(hrun tb hr).1, e, (hrun tb hr).2.trans hs, he⟩
  | trigger => exact h
  | renewal => exact h

theorem State.DueLaw.setTimebase {s : State} {k : TimebaseId} {x : Timebase} (h : s.DueLaw)
    (hx : (s.timebase k).running = true → x.running = true ∧ x.source = (s.timebase k).source) : (s.setTimebase k x).DueLaw :=
  fun d hd => State.mayBeDue_setTimebase hx (h d hd)

/-- No tick of a timebase that is stopped, and no source event of it, is due after the stop (R127). -/
theorem State.DueLaw.stopTimebase {s : State} {k : TimebaseId} {x : Timebase} (h : s.DueLaw) :
    ((s.setTimebase k x).withdraw (Due.isOf k)).DueLaw := by
  intro d hd
  obtain ⟨hd, hof⟩ := State.mem_due_withdraw.mp hd
  have hmay := h d hd
  have hsame : ∀ j, j ≠ k → ((s.setTimebase k x).withdraw (Due.isOf k)).timebase j = s.timebase j := fun j hj => by
    rw [State.timebase_withdraw, State.timebase_setTimebase, if_neg (Ne.symm hj)]
  cases d with
  | permitTick => exact hmay
  | groupTick j g =>
    have hj : j ≠ k := by simpa [Due.isOf] using hof
    exact ⟨hmay.1, by rw [hsame j hj]; exact hmay.2⟩
  | lineTick j l =>
    have hj : j ≠ k := by simpa [Due.isOf] using hof
    exact ⟨hmay.1, hmay.2.1, by rw [hsame j hj]; exact hmay.2.2⟩
  | sourceTick j tb =>
    have hj : j ≠ k ∧ tb ≠ k := by simpa [Due.isOf] using hof
    exact ⟨by rw [hsame tb hj.2]; exact hmay.1, by rw [hsame tb hj.2]; exact hmay.2⟩
  | sourceEdge n rising tb =>
    have hj : tb ≠ k := by simpa [Due.isOf] using hof
    obtain ⟨hr, e, hs, he⟩ := hmay
    exact ⟨by rw [hsame tb hj]; exact hr, e, by rw [hsame tb hj]; exact hs, he⟩
  | trigger => exact hmay
  | renewal => exact hmay

theorem State.DueLaw.deliver {s : State} {ds : List Due} (h : s.DueLaw) (hd : ∀ d ∈ ds, s.mayBeDue d) : (s.deliver ds).DueLaw := by
  intro d hm
  obtain hm | hm := State.mem_due_deliver.mp hm
  · exact hd d hm
  · exact h d hm

/-- What a tick of a RUNNING timebase delivers may be due. -/
theorem State.mayBeDue_tickUsers {s : State} {k : TimebaseId} (hk : (s.timebase k).running = true) {d : Due}
    (h : d ∈ s.tickUsers k) : s.mayBeDue d := by
  obtain ⟨i, q, rfl, hq, -, hs⟩ | ⟨g, rfl, hg⟩ | ⟨l, rfl, hl, ho⟩ | ⟨tb, rfl, hs, hr⟩ := State.mem_tickUsers.mp h
  · exact ⟨q, by rw [State.resolve_handle, hq], hs⟩
  · exact ⟨hg, hk⟩
  · exact ⟨hl, ho, hk⟩
  · exact ⟨hs, hr⟩

theorem State.mayBeDue_edgeReceivers {s : State} {n : InputId} {rising : Bool} {d : Due} (h : d ∈ s.edgeReceivers n rising) :
    s.mayBeDue d := by
  obtain ⟨i, q, e, rfl, hq, ht, -, hs⟩ | ⟨i, q, e, m, rfl, hq, hsh, -, hs⟩ | ⟨tb, e, rfl, hs, he, hr⟩ :=
    State.mem_edgeReceivers.mp h
  · exact ⟨q, by rw [State.resolve_handle, hq], hs, n, e, ht⟩
  · exact ⟨q, by rw [State.resolve_handle, hq], hs, n, e, m, hsh⟩
  · exact ⟨hr, e, hs, he⟩

/-! ### Acts -/

/-- An act that moves no permit, no claim and no group, and of a port neither session nor owned count, quota or list. -/
structure State.Aside (s t : State) : Prop where
  slots : t.slots = s.slots
  line : ∀ l, (t.line l).claims = (s.line l).claims ∧ (t.line l).asserted = (s.line l).asserted ∧
    ((t.line l).condition.isLocked = true → (s.line l).condition.isLocked = true)
  group : ∀ g, t.group g = s.group g
  port : ∀ p, (t.port p).isOpen = (s.port p).isOpen ∧ (t.port p).session = (s.port p).session ∧ (t.port p).owned = (s.port p).owned ∧
    (t.port p).quota = (s.port p).quota ∧ (t.port p).attention = (s.port p).attention
  quenched : t.quenched = s.quenched
  resetLow : t.resetLow = s.resetLow
  pending : t.pending = s.pending
  times : s.TimebaseLaw → t.TimebaseLaw
  inputs : s.InputLaw → t.InputLaw
  due : s.TimebaseLaw → s.DueLaw → t.DueLaw

/-- The part after RESET: every item at its reset value, the commands waiting and the draws made as they stand (R1). -/
def State.resetAs (cs : List Instr) (n : Nat) : State := { State.reset with pending := cs, freeCount := n }

/-- The part after OPEN (R146). -/
def State.opened (s : State) (p : Port) (n : Byte) : State :=
  s.setPort p { s.port p with isOpen := true, session := n, owned := 0, attention := [] }

/-- An act that leaves every level and every claim alone. -/
inductive State.Quiet : State → State → Prop
  | aside {s t : State} (h : s.Aside t) : State.Quiet s t
  /-- An ARM that has passed its checks (R23, R24). -/
  | arms {s : State} {i : SlotId} {q : Permit} (here : s.permit i = some q) (owned : q.owner ≠ none) (out : q.state.inService = false)
      (quench : s.quenched = false) (locked : s.anyLocked q.lines = false) (grouped : s.groupedCount q.lines ≤ 1)
      (running : (s.timebase q.timebase).running = true) : State.Quiet s (s.setPermit i q.rearmed)
  /-- An AMEND that has passed its checks (R74). -/
  | amends {s : State} {i : SlotId} {q : Permit} {f : AmendFields} {m : Bool} (here : s.permit i = some q)
      (applies : AmendFields.applies f q.shape = true) (ranges : AmendFields.inRanges f = true) :
      State.Quiet s (s.setPermit i (q.amended f m))
  /-- An ACK of a permit by its owner (R141). -/
  | acks {s : State} {p : Port} {i : SlotId} {q : Permit} (here : s.permit i = some q) (owned : s.ownedBy p q = true)
      (kinds : NoticeSet) : State.Quiet s (s.acknowledge p i q kinds)
  /-- An ACK of a line or of quench (R142). -/
  | drops {s : State} {test : Entry → Bool} (permits : ∀ h, test (.permit h) = false) : State.Quiet s (s.dropEntries test)
  /-- A CREATE that has passed its checks (R10 to R15). -/
  | places {s : State} {p : Port} {i : SlotId} {q : Permit} {f : CreateFields} (isOpen : (s.port p).isOpen = true)
      (empty : s.permit i = none) (quota : (s.port p).owned < (s.port p).quota)
      (record : createRecord { port := p, session := (s.port p).session } f = some q)
      (pred : s.referenceFailure p q.trigger.pred = none) (gate : s.referenceFailure p q.gate = none)
      (live : s.resetLow = false) : State.Quiet s (s.place p i q)
  /-- A RETIRE that has passed its checks (R19, R20). -/
  | retires {s : State} {p : Port} {i : SlotId} {q : Permit} (here : s.permit i = some q) (owned : s.ownedBy p q = true)
      (out : q.state.inService = false) (free : s.referenced p i = false) : State.Quiet s (s.retire i)
  /-- OPEN on a CLOSED port (R146). -/
  | opens {s : State} {p : Port} (closed : (s.port p).isOpen = false) (n : Byte) :
      State.Quiet s (s.opened p n)
  /-- A SET_QUOTA that has passed its checks (R149). -/
  | quota {s : State} {p : Port} {n : Nat} (owned : (s.port p).owned ≤ n) (sum : s.quotaSum p n ≤ 48) :
      State.Quiet s (s.setPort p { s.port p with quota := n })
  /-- A SET_GROUP that has passed its checks (R89, R90). -/
  | groups {s : State} {g : GroupId} {ls : LineSet} {gap : Nat} {tb : TimebaseId} (apart : s.inOtherGroup g ls = false)
      (free : (s.group g).state = .free) (was : s.anyInServiceOn (s.group g).members = false) (will : s.anyInServiceOn ls = false) :
      State.Quiet s ((s.setGroup g { s.group g with members := ls, gap := gap, timebase := tb }).withdraw (Due.isForGroup g))
  | resets {s : State} : State.Quiet s (State.resetAs s.pending s.freeCount)
  | released {s : State} (low : s.resetLow = true) (q : Bool) : State.Quiet s { s with resetLow := false, quenchLow := q }

/-- An act that moves claims: the levels are settled after it. -/
inductive State.Loud : State → State → Prop
  | whole {s t : State} (h : State.Whole .ends s t) (orphans : s.OrphanLaw → t.OrphanLaw) : State.Loud s t
  | teardown {s : State} (p : Port) : State.Loud s (s.teardown p)
  | clear {s : State} : State.Loud s s.clearAll
  | lock {s : State} (l : LineId) (c : LockCause) : State.Loud s (s.lockBy l c)
  | quench {s : State} (low latch : Bool) : State.Loud s (s.setQuench low latch)

/-- Acts in a row; the flag says whether the levels are settled. -/
inductive State.Acts (s : State) : Bool → State → Prop
  | refl : State.Acts s true s
  | quiet {b : Bool} {t u : State} (h : State.Acts s b t) (hq : State.Quiet t u) : State.Acts s b u
  | loud {b : Bool} {t u : State} (h : State.Acts s b t) (hl : State.Loud t u) : State.Acts s false u
  | settle {b : Bool} {t : State} (h : State.Acts s b t) : State.Acts s true t.settleLevels

/-- Acts in a row, settled or not. -/
def State.Does (s t : State) : Prop := ∃ b, State.Acts s b t

theorem State.Does.refl (s : State) : s.Does s := ⟨true, .refl⟩

theorem State.Does.quiet {s t u : State} (h : s.Does t) (hq : State.Quiet t u) : s.Does u := h.imp fun _ h => h.quiet hq

theorem State.Does.loud {s t u : State} (h : s.Does t) (hl : State.Loud t u) : s.Does u :=
  let ⟨_, h⟩ := h; ⟨false, h.loud hl⟩

theorem State.Quiet.does {s t : State} (h : State.Quiet s t) : s.Does t := (State.Does.refl s).quiet h

theorem State.Loud.does {s t : State} (h : State.Loud s t) : s.Does t := (State.Does.refl s).loud h

theorem State.Does.settle {s t : State} (h : s.Does t) : State.Acts s true t.settleLevels := let ⟨_, h⟩ := h; h.settle

/-! ### Acts at no permit -/

/-- An act that leaves slots, lines, groups, timebases, inputs, quench and reset alone, and what is due no more than it was. -/
theorem State.Aside.of_parts {s t : State} (hslots : t.slots = s.slots) (hlines : t.lines = s.lines) (hgroups : t.groups = s.groups)
    (htb : t.timebases = s.timebases) (hin : t.inputs = s.inputs)
    (hport : ∀ p, (t.port p).isOpen = (s.port p).isOpen ∧ (t.port p).session = (s.port p).session ∧
      (t.port p).owned = (s.port p).owned ∧ (t.port p).quota = (s.port p).quota ∧ (t.port p).attention = (s.port p).attention)
    (hq : t.quenched = s.quenched) (hr : t.resetLow = s.resetLow) (hp : t.pending = s.pending)
    (hdue : ∀ d ∈ t.due, d ∈ s.due) : s.Aside t := by
  have hline : ∀ l, t.line l = s.line l := fun l => by simp only [State.line, hlines]
  have hgroup : ∀ g, t.group g = s.group g := fun g => by simp only [State.group, hgroups]
  have htimebase : ∀ k, t.timebase k = s.timebase k := fun k => by simp only [State.timebase, htb]
  have hpermit := State.permit_of_slots hslots
  refine ⟨hslots, fun l => by rw [hline]; exact ⟨rfl, rfl, fun h => h⟩, hgroup, hport, hq, hr, hp, fun h => ?_, fun h => ?_, fun _ h d hd => ?_⟩
  · simpa only [State.TimebaseLaw, htimebase, hpermit] using h
  · simpa only [State.InputLaw, State.input, hin] using h
  · have := h d (hdue d hd)
    cases d <;> simpa only [State.mayBeDue, State.resolve_of_slots hslots, hgroup, hline, htimebase] using this

theorem State.Aside.due_le {s : State} {ds : List Due} (h : ∀ d ∈ ds, d ∈ s.due) : s.Aside { s with due := ds } :=
  .of_parts rfl rfl rfl rfl rfl (fun _ => ⟨rfl, rfl, rfl, rfl, rfl⟩) rfl rfl rfl h

theorem State.Aside.drawn (s : State) : s.Aside s.drawn :=
  .of_parts rfl rfl rfl rfl rfl (fun _ => ⟨rfl, rfl, rfl, rfl, rfl⟩) rfl rfl rfl fun _ h => h

/-- A write of a port unit but for its session, its owned count, its quota and its list. -/
theorem State.Aside.setPort {s : State} {p : Port} {x : PortUnit}
    (hx : x.isOpen = (s.port p).isOpen ∧ x.session = (s.port p).session ∧ x.owned = (s.port p).owned ∧
      x.quota = (s.port p).quota ∧ x.attention = (s.port p).attention) : s.Aside (s.setPort p x) := by
  refine .of_parts rfl rfl rfl rfl rfl (fun p' => ?_) rfl rfl rfl fun _ h => h
  rw [State.port_setPort]
  split
  · next h => subst h; exact hx
  · exact ⟨rfl, rfl, rfl, rfl, rfl⟩

theorem State.takeDue_eq_some {s t : State} {test : Due → Bool} (h : s.takeDue test = some t) :
    t = { s with due := s.due.eraseP test } := by
  unfold State.takeDue at h
  split at h
  · cases h; rfl
  · cases h

theorem State.Aside.takeDue {s t : State} {test : Due → Bool} (h : s.takeDue test = some t) : s.Aside t := by
  rw [State.takeDue_eq_some h]
  exact .due_le fun d hd => List.mem_of_mem_eraseP hd

/-- An act at one timebase. -/
theorem State.Aside.timebase {s t : State} {k : TimebaseId} {x : Timebase} {ds : List Due}
    (ht : t = { s.setTimebase k x with due := ds }) (htimes : s.TimebaseLaw → (s.setTimebase k x).TimebaseLaw)
    (hdue : s.DueLaw → t.DueLaw) : s.Aside t := by
  subst ht
  exact ⟨rfl, fun _ => ⟨rfl, rfl, fun h => h⟩, fun _ => rfl, fun _ => ⟨rfl, rfl, rfl, rfl, rfl⟩, rfl, rfl, rfl, htimes, fun h => h,
    fun _ => hdue⟩

end Sys2Proof.Machine
end

section
/-! SUPPORT. Every command as a chain of acts: requests that the engine executes (R163), and the other happenings. -/

namespace Sys2Proof.Machine

set_option Elab.async false

/-! ### Executions (R163, R164) -/

/-- A stored response, the holder and the port last served. -/
theorem State.Aside.served (s : State) (p : Port) (st : Response) (h : Holder) :
    s.Aside { s.setPort p { s.port p with stored := st, holder := h } with lastServed := p } := by
  have hport := (State.Aside.setPort (s := s) (p := p) (x := { s.port p with stored := st, holder := h }) ⟨rfl, rfl, rfl, rfl, rfl⟩).port
  exact .of_parts rfl rfl rfl rfl rfl hport rfl rfl rfl fun _ h => h

theorem State.Does.finish {s : State} {p : Port} {f : Frame} {r : Reply} (h : s.Does r.state) :
    State.Acts s true (State.finish p f r) :=
  (h.settle.quiet (.aside (.drawn _))).quiet (.aside (State.Aside.served r.state.settleLevels.drawn p _ _))

theorem State.acts_execute {s : State} {run : Port → Request → Option Reply}
    (h : s.resetLow = false → ∀ p r reply, run p r = some reply → s.Does reply.state) : State.Acts s true (s.execute run) := by
  unfold State.execute State.outOfReset
  split
  · exact .refl
  next hlive =>
  dsimp only
  split
  · exact .refl
  split
  · exact .refl
  split
  · exact .refl
  next hr => exact (h (by simpa using hlive) _ _ _ hr).finish

theorem State.acts_outOfReset {s : State} {f : State → State} (h : State.Acts s true (f s)) :
    State.Acts s true (s.outOfReset f) := by
  unfold State.outOfReset
  split
  · exact .refl
  · exact h

theorem firstFailure_eq_none {cs : List (Bool × Status)} : firstFailure cs = none ↔ ∀ c ∈ cs, c.1 = true := by
  induction cs with
  | nil => simp [firstFailure]
  | cons c rest ih =>
    obtain ⟨b, st⟩ := c
    cases b <;> simp [firstFailure, ih]

/-- A request that fails a check does nothing. -/
theorem State.does_checked {s : State} {checks : List (Bool × Status)} {go : Reply}
    (h : (∀ c ∈ checks, c.1 = true) → s.Does go.state) : s.Does (s.checked checks go).state := by
  unfold State.checked
  split
  · exact .refl s
  · next hn => exact h (firstFailure_eq_none.mp hn)

theorem State.checkHandle_ok {s : State} {p : Port} {revoke : Bool} {h : RawHandle} {i : SlotId} {q : Permit}
    (hc : s.checkHandle p revoke h = .ok (i, q)) : s.permit i = some q ∧ (revoke = true ∨ s.ownedBy p q = true) := by
  unfold State.checkHandle at hc
  split at hc
  · cases hc
  split at hc
  · cases hc
  split at hc
  · cases hc
  next h' _ =>
  split at hc
  · cases hc
  next q' hr =>
  split at hc
  · next ho =>
    cases hc
    exact ⟨State.permit_of_resolve hr, Bool.or_eq_true_iff.mp ho⟩
  · cases hc

theorem State.does_withPermit {s : State} {p : Port} {revoke : Bool} {h : RawHandle} {go : SlotId → Permit → Reply}
    (hgo : ∀ i q, s.permit i = some q → (revoke = true ∨ s.ownedBy p q = true) → s.Does (go i q).state) :
    s.Does (s.withPermit p revoke h go).state := by
  unfold State.withPermit
  split
  · exact .refl s
  · next i q hc =>
    obtain ⟨hq, ho⟩ := State.checkHandle_ok hc
    exact hgo i q hq ho

theorem State.owner_of_ownedBy {s : State} {p : Port} {q : Permit} (h : s.ownedBy p q = true) :
    q.owner = some { port := p, session := (s.port p).session } := of_decide_eq_true h

/-! ### Requests at permits -/

section
variable (s : State) (p : Port)

theorem State.does_runArm (h : RawHandle) : s.Does (s.runArm p h).state := by
  refine State.does_withPermit fun i q here ho => State.does_checked fun hc => ?_
  simp only [List.forall_mem_cons, List.not_mem_nil, false_imp_iff, implies_true, and_true, Bool.not_eq_true', decide_eq_true_eq] at hc
  obtain ⟨hout, hq, hl, hg, hr⟩ := hc
  exact (State.Quiet.arms here (by rw [State.owner_of_ownedBy (ho.resolve_left (by simp))]; nofun) hout hq hl hg hr).does

theorem State.does_runFire (h : RawHandle) : s.Does (s.runFire p h).state := by
  refine State.does_withPermit fun i q _ _ => State.does_checked fun _ => ?_
  exact (State.Loud.whole (State.whole_takeTrigger rfl s i) fun h => h.of_whole (State.whole_takeTrigger (k := .stop) rfl s i) rfl).does

theorem State.does_runRenew (h : RawHandle) : s.Does (s.runRenew p h).state := by
  refine State.does_withPermit fun i q here _ => State.does_checked fun _ => ?_
  split
  · next hs =>
    have hwhole : ∀ k, State.Whole k s (s.setPermit i q.renewed) := fun k =>
      have hruns : q.Reruns q.renewed := rfl
      have hin : q.state.inService = true := by rw [hs]; rfl
      .change .refl (.rerun here hruns (fun hr => Permit.inRanges_renewed hr hs) (by rw [hs]; rfl) hin .inl (fun h => h) (.inl rfl))
    exact (State.Loud.whole (hwhole _) fun h => h.of_whole (hwhole .run) rfl).does
  · exact .refl s

theorem State.does_runRelease (h : RawHandle) : s.Does (s.runRelease p h).state := by
  refine State.does_withPermit fun i _ _ _ => State.does_checked fun _ => ?_
  show s.Does (s.endNormal i .released)
  exact (State.Loud.whole (State.whole_endNormal rfl s i _) fun h => h.endNormal i _).does

theorem State.does_runRevoke (h : RawHandle) : s.Does (s.runRevoke p h).state := by
  refine State.does_withPermit fun i _ _ _ => State.does_checked fun _ => ?_
  show s.Does (s.endAbnormal i .revoked)
  exact (State.Loud.whole (State.whole_endAbnormal rfl s i _) fun h => h.endAbnormal i _).does

theorem State.does_runAmend (f : AmendFields) : s.Does (s.runAmend p f).state := by
  refine State.does_withPermit fun i q here _ => State.does_checked fun hc => ?_
  simp only [List.forall_mem_cons, List.not_mem_nil, false_imp_iff, implies_true, and_true] at hc
  exact (State.Quiet.amends here hc.2.1 hc.2.2.2).does

theorem State.does_runRetire (h : RawHandle) : s.Does (s.runRetire p h).state := by
  refine State.does_withPermit fun i q here ho => State.does_checked fun hc => ?_
  simp only [List.forall_mem_cons, List.not_mem_nil, false_imp_iff, implies_true, and_true, Bool.not_eq_true'] at hc
  exact (State.Quiet.retires here (ho.resolve_left (by simp)) hc.1 hc.2).does

theorem State.does_runQuery (h : RawHandle) : s.Does (s.runQuery p h).state :=
  State.does_withPermit fun _ _ _ _ => .refl s

theorem State.does_runAckPermit (h : RawHandle) (kinds : Byte) : s.Does (s.runAckPermit p h kinds).state := by
  refine State.does_withPermit fun i q here ho => ?_
  split
  · exact .refl s
  · exact (State.Quiet.acks here (ho.resolve_left (by simp)) _).does

theorem State.permit_of_emptySlot {i : SlotId} (h : s.emptySlot = some i) : s.permit i = none := by
  have := List.find?_some (p := fun i => (s.permit i).isNone) h
  simpa using this

theorem State.does_runCreate (live : s.resetLow = false) (f : CreateFields) : s.Does (s.runCreate p f).state := by
  unfold State.runCreate
  split
  · exact .refl s
  next hopen =>
  split
  · exact .refl s
  next i hi =>
  split
  · exact .refl s
  next hquota =>
  split
  · exact .refl s
  next q hrec =>
  split
  · exact .refl s
  split
  · exact .refl s
  next hpred =>
  split
  · exact .refl s
  next hgate =>
  exact (State.Quiet.places (by simpa using hopen) (s.permit_of_emptySlot hi) (by omega) hrec hpred hgate live).does

theorem State.does_runList (start : Byte) : s.Does (s.runList p start).state := State.does_checked fun _ => .refl s

theorem State.does_runNextAttention : s.Does (s.runNextAttention p).state := State.does_checked fun _ => .refl s

theorem State.does_runAckLine (line : Byte) : s.Does (s.runAckLine p line).state := by
  refine State.does_checked fun _ => ?_
  split
  · exact .refl s
  · exact (State.Quiet.drops fun _ => rfl).does

theorem State.does_runAckQuench : s.Does (s.runAckQuench p).state :=
  State.does_checked fun _ => (State.Quiet.drops fun _ => rfl).does

/-! ### Requests at ports, lines, groups and quench -/

theorem State.does_runOpen : s.Does (s.runOpen p).state := by
  unfold State.runOpen
  dsimp only
  split
  · exact .refl s
  · next h => exact (State.Quiet.opens (by simpa using h) _).does

theorem State.does_runClose : s.Does (s.runClose p).state := by
  unfold State.runClose
  split
  · exact (State.Loud.teardown p).does
  · exact .refl s

theorem State.does_runSetQuota (port quota : Byte) : s.Does (s.runSetQuota p port quota).state := by
  unfold State.runSetQuota
  split
  · exact .refl s
  split
  · split
    · exact .refl s
    · next q n _ _ h => exact (State.Quiet.quota (s := s) (p := q) (n := n) (by omega) (by omega)).does
  · exact .refl s

theorem State.does_runClearTable : s.Does (s.runClearTable p).state := State.does_checked fun _ => State.Loud.clear.does

theorem State.does_runQuenchSet : s.Does (s.runQuenchSet p).state := State.does_checked fun _ => (State.Loud.quench _ _).does

theorem State.does_runQuenchClear : s.Does (s.runQuenchClear p).state := State.does_checked fun _ => (State.Loud.quench _ _).does

theorem State.does_runLockLine (line : Byte) : s.Does (s.runLockLine p line).state := by
  refine State.does_checked fun _ => ?_
  split
  · exact .refl s
  · exact State.does_checked fun _ => (State.Loud.lock _ _).does

theorem State.does_runSetGroup (group : Byte) (members : Word) (gap tb : Byte) :
    s.Does (s.runSetGroup p group members gap tb).state := by
  refine State.does_checked fun _ => ?_
  split
  · refine State.does_checked fun hc => ?_
    simp only [List.forall_mem_cons, List.not_mem_nil, false_imp_iff, implies_true, and_true, Bool.not_eq_true', Bool.and_eq_true,
      decide_eq_true_eq] at hc
    exact (State.Quiet.groups hc.1 hc.2.1.1 hc.2.1.2 hc.2.2).does
  · exact .refl s

end

/-! ### Lines, timebases and inputs -/

/-- A write of one line that moves no claim and locks nothing, the tick due at it withdrawn where its check changes. -/
theorem State.Aside.setLine {s : State} {l : LineId} {x : Line} {test : Due → Bool}
    (hx : x.claims = (s.line l).claims ∧ x.asserted = (s.line l).asserted ∧
      (x.condition.isLocked = true → (s.line l).condition.isLocked = true))
    (hcheck : (∀ d, d.isForLine l = true → test d = true) ∨
      (x.checkTimebase = (s.line l).checkTimebase ∧ x.senseOn = (s.line l).senseOn)) :
    s.Aside ((s.setLine l x).withdraw test) := by
  refine ⟨rfl, fun l' => ?_, fun _ => rfl, fun _ => ⟨rfl, rfl, rfl, rfl, rfl⟩, rfl, rfl, rfl, fun h => h, fun h => h, fun _ h d hd => ?_⟩
  · rw [State.line_withdraw, State.line_setLine]
    split
    · next hl => subst hl; exact hx
    · exact ⟨rfl, rfl, fun h => h⟩
  · obtain ⟨hd, htest⟩ := State.mem_due_withdraw.mp hd
    have hmay := h d hd
    cases d with
    | lineTick k l' =>
      have hline : (((s.setLine l x).withdraw test).line l').checkTimebase = (s.line l').checkTimebase ∧
          (((s.setLine l x).withdraw test).line l').senseOn = (s.line l').senseOn := by
        rw [State.line_withdraw, State.line_setLine]
        split
        · next hl =>
          subst hl
          exact hcheck.resolve_left fun hall => by rw [hall (.lineTick k l) (decide_eq_true rfl)] at htest; cases htest
        · exact ⟨rfl, rfl⟩
      exact ⟨hline.1.trans hmay.1, hline.2.trans hmay.2.1, hmay.2.2⟩
    | permitTick => exact hmay
    | groupTick => exact hmay
    | sourceTick => exact hmay
    | sourceEdge => exact hmay
    | trigger => exact hmay
    | renewal => exact hmay

/-- A write of one line, nothing withdrawn. -/
theorem State.Aside.setLine_checking {s : State} {l : LineId} {x : Line}
    (hx : x.claims = (s.line l).claims ∧ x.asserted = (s.line l).asserted ∧
      (x.condition.isLocked = true → (s.line l).condition.isLocked = true))
    (hcheck : x.checkTimebase = (s.line l).checkTimebase ∧ x.senseOn = (s.line l).senseOn) : s.Aside (s.setLine l x) := by
  have := State.Aside.setLine (s := s) (l := l) (test := fun _ => false) hx (.inr hcheck)
  rwa [show (s.setLine l x).withdraw (fun _ => false) = s.setLine l x by
    simp only [State.withdraw, Bool.not_false, List.filter_true]] at this

theorem lineSettings_eq_some {x y : Line} {a b c d e : Byte} (h : lineSettings x a b c d e = some y) :
    y.claims = x.claims ∧ y.asserted = x.asserted ∧ y.condition = x.condition := by
  simp only [lineSettings, Option.bind_eq_bind, Option.pure_def] at h
  obtain ⟨_, -, h⟩ := Option.bind_eq_some_iff.mp h
  obtain ⟨_, -, h⟩ := Option.bind_eq_some_iff.mp h
  obtain ⟨_, -, h⟩ := Option.bind_eq_some_iff.mp h
  obtain ⟨_, -, h⟩ := Option.bind_eq_some_iff.mp h
  obtain ⟨_, -, h⟩ := Option.bind_eq_some_iff.mp h
  cases h
  exact ⟨rfl, rfl, rfl⟩

theorem divisorOf_range (w : Word) : 1 ≤ divisorOf w ∧ divisorOf w ≤ 65536 := by
  unfold divisorOf
  split
  · omega
  · next h =>
    have : w.toNat ≠ 0 := fun h0 => h (BitVec.eq_of_toNat_eq h0)
    have := w.isLt
    omega

theorem sourceOf_tick {k j : TimebaseId} {kind arg : Byte} (h : sourceOf k kind arg = some (.tick j)) : j < k := by
  unfold sourceOf at h
  split at h
  · cases h
  · obtain ⟨x, -, h⟩ := Option.bind_eq_some_iff.mp h
    split at h
    · next hlt => cases h; exact hlt
    · cases h
  · obtain ⟨x, -, h⟩ := Option.map_eq_some_iff.mp h
    cases h
  · cases h

section
variable (s : State) (p : Port)

theorem State.does_runSetLine (line pol chk tol tb spol : Byte) : s.Does (s.runSetLine p line pol chk tol tb spol).state := by
  refine State.does_checked fun _ => ?_
  split
  · exact .refl s
  split
  · exact .refl s
  next l _ x hx =>
  refine State.does_checked fun _ => ?_
  obtain ⟨h1, h2, h3⟩ := lineSettings_eq_some hx
  exact (State.Quiet.aside (.setLine ⟨h1, h2, fun h => h3 ▸ h⟩ (.inl fun _ h => h))).does

theorem State.does_runClearLine (line : Byte) : s.Does (s.runClearLine p line).state := by
  refine State.does_checked fun _ => ?_
  split
  · exact .refl s
  next l _ =>
  refine State.does_checked fun _ => ?_
  exact (State.Quiet.aside (.setLine_checking (l := l) (x := { s.line l with condition := .normal, mismatch := 0 })
    ⟨rfl, rfl, fun h => nomatch h⟩ ⟨rfl, rfl⟩)).does

/-- A write of one timebase that keeps it in its ranges and its users in step. -/
theorem State.Aside.setTimebase {s : State} {k : TimebaseId} {x : Timebase} (hx : (s.timebase k).InRange → x.InRange)
    (hsource : s.TimebaseLaw → ∀ j, x.source = .tick j → j < k ∧ (x.running = true → (s.timebase j).running = true))
    (hrun : (s.timebase k).running = true → x.running = true ∧ x.source = (s.timebase k).source) : s.Aside (s.setTimebase k x) := by
  refine .timebase rfl (fun h => h.setTimebase (hx (h.inRange k)) (hsource h) ?_) fun h => h.setTimebase hrun
  cases hr : (s.timebase k).running with
  | true => exact .inl (hrun hr).1
  | false => exact .inr (.inl rfl)

theorem State.does_runSetTimebase (tb kind arg : Byte) (d : Word) : s.Does (s.runSetTimebase p tb kind arg d).state := by
  refine State.does_checked fun _ => ?_
  split
  · exact .refl s
  next k _ =>
  split
  · exact .refl s
  next src hsrc =>
  dsimp only
  split
  · next hrun =>
    split
    · refine (State.Quiet.aside (.setTimebase (k := k) (x := { s.timebase k with pendingDivisor := some (divisorOf d) })
        (fun h => ⟨h.divisor, h.count, ?_, h.within, fun hn => ?_⟩) (fun h _ => h.source) fun hr => ⟨hr, rfl⟩)).does
      · rintro _ ⟨⟩; exact divisorOf_range d
      · rw [hrun] at hn; cases hn
    · exact .refl s
  · next hrun =>
    have hrun : (s.timebase k).running = false := by simpa using hrun
    refine (State.Quiet.aside (.setTimebase (k := k)
      (x := { s.timebase k with source := src, divisor := divisorOf d, count := divisorOf d })
      (fun h => ⟨divisorOf_range d, divisorOf_range d, fun _ hd => h.pending _ hd, fun _ => Nat.le_refl _, fun _ => h.stopped hrun⟩)
      (fun _ j hj => ⟨sourceOf_tick (hsrc.trans (congrArg some hj)), fun hr => ?_⟩) fun hr => ?_)).does
    · rw [hrun] at hr; cases hr
    · rw [hrun] at hr; cases hr

theorem State.does_runStartTimebase (tb : Byte) : s.Does (s.runStartTimebase p tb).state := by
  refine State.does_checked fun _ => ?_
  split
  · exact .refl s
  next k _ =>
  dsimp only
  split
  · exact .refl s
  next h =>
  obtain ⟨hrun, hsrc⟩ : (s.timebase k).running = false ∧ s.sourceRuns (s.timebase k).source = true := by simpa using h
  refine (State.Quiet.aside (.setTimebase (k := k) (x := { s.timebase k with count := (s.timebase k).divisor, running := true })
    (fun h => ⟨h.divisor, h.divisor, h.pending, fun _ => Nat.le_refl _, fun h => nomatch h⟩)
    (fun h j hj => ⟨(h.source hj).1, fun _ => ?_⟩) fun hr => ?_)).does
  · rw [show (s.timebase k).source = .tick j from hj] at hsrc; exact hsrc
  · rw [hrun] at hr; cases hr

theorem State.does_runStopTimebase (tb : Byte) : s.Does (s.runStopTimebase p tb).state := by
  refine State.does_checked fun _ => ?_
  split
  · exact .refl s
  next k _ =>
  dsimp only
  split
  · exact .refl s
  split
  · exact .refl s
  next hdep =>
  refine (State.Quiet.aside (.timebase (k := k) (x := { s.timebase k with
      running := false, divisor := (s.timebase k).pendingDivisor.getD (s.timebase k).divisor, pendingDivisor := none })
    rfl (fun h => ?_) fun h => h.stopTimebase)).does
  have hin := h.inRange k
  have hd : 1 ≤ (s.timebase k).pendingDivisor.getD (s.timebase k).divisor ∧
      (s.timebase k).pendingDivisor.getD (s.timebase k).divisor ≤ 65536 := by
    cases hp : (s.timebase k).pendingDivisor with
    | none => exact hin.divisor
    | some d => exact hin.pending d hp
  exact h.setTimebase ⟨hd, hin.count, fun _ h => (nomatch h), fun h => (nomatch h), fun _ => rfl⟩
    (fun j hj => ⟨(h.source hj).1, fun h => nomatch h⟩)
    (.inr (.inr (by simpa using hdep)))

theorem inRange_eq_some {lo hi n m : Nat} : inRange lo hi n = some m ↔ m = n ∧ lo ≤ n ∧ n ≤ hi := by
  unfold inRange
  split
  · next h => simp only [Option.some.injEq]; exact ⟨fun e => ⟨e.symm, h⟩, fun e => e.1.symm⟩
  · next h => simp only [reduceCtorEq, false_iff]; exact fun e => h e.2

theorem edges_pos (v : Divider) : 1 ≤ v.edges := by cases v <;> decide

/-- A write of one input in its ranges. -/
theorem State.Aside.setInput {s t : State} {n : InputId} {x : Input} {ds : List Due} (ht : t = (s.setInput n x).deliver ds)
    (hx : (1 ≤ (s.input n).depth ∧ (s.input n).depth ≤ 7 ∧ 1 ≤ (s.input n).phase ∧ (s.input n).phase ≤ (s.input n).divider.edges ∧
        (s.input n).agreement < (s.input n).depth) →
      1 ≤ x.depth ∧ x.depth ≤ 7 ∧ 1 ≤ x.phase ∧ x.phase ≤ x.divider.edges ∧ x.agreement < x.depth)
    (hd : ∀ d ∈ ds, s.mayBeDue d) : s.Aside t := by
  subst ht
  refine ⟨rfl, fun _ => ⟨rfl, rfl, fun h => h⟩, fun _ => rfl, fun _ => ⟨rfl, rfl, rfl, rfl, rfl⟩, rfl, rfl, rfl, fun h => h,
    fun h m => ?_, fun _ h => State.DueLaw.deliver (s := s.setInput n x) h hd⟩
  rw [State.input_deliver, State.input_setInput]
  split
  · next hm => subst hm; exact hx (h n)
  · exact h m

theorem State.does_runSetInput (input depth divider : Byte) : s.Does (s.runSetInput p input depth divider).state := by
  refine State.does_checked fun _ => ?_
  split
  · next n d v _ hd _ =>
    obtain ⟨rfl, h1, h7⟩ := inRange_eq_some.mp hd
    have hnil : ∀ t : State, t.deliver [] = t := fun t => by simp [State.deliver]
    exact (State.Quiet.aside (.setInput (n := n) (x := { s.input n with depth := depth.toNat, divider := v, phase := v.edges, agreement := 0 })
      (hnil _).symm (fun _ => ⟨h1, h7, edges_pos v, Nat.le_refl _, h1⟩) nofun)).does
  · exact .refl s

theorem State.does_clockInput (n : InputId) (raw : Bool) : State.Quiet s (s.clockInput n raw) := by
  have hranges : (1 ≤ (s.input n).depth ∧ (s.input n).depth ≤ 7 ∧ 1 ≤ (s.input n).phase ∧ (s.input n).phase ≤ (s.input n).divider.edges ∧
        (s.input n).agreement < (s.input n).depth) →
      1 ≤ ((s.input n).clocked raw).depth ∧ ((s.input n).clocked raw).depth ≤ 7 ∧ 1 ≤ ((s.input n).clocked raw).phase ∧
        ((s.input n).clocked raw).phase ≤ ((s.input n).clocked raw).divider.edges ∧
        ((s.input n).clocked raw).agreement < ((s.input n).clocked raw).depth := by
    rintro ⟨h1, h2, h3, h4, h5⟩
    have := edges_pos (s.input n).divider
    unfold Input.clocked
    split
    · exact ⟨h1, h2, by dsimp only; omega, by dsimp only; omega, h5⟩
    dsimp only
    split
    · exact ⟨h1, h2, this, Nat.le_refl _, h1⟩
    split
    · exact ⟨h1, h2, this, Nat.le_refl _, h1⟩
    split
    · exact ⟨h1, h2, this, Nat.le_refl _, h1⟩
    · exact ⟨h1, h2, this, Nat.le_refl _, by dsimp only; omega⟩
  have hnil : ∀ t : State, t.deliver [] = t := fun t => by simp [State.deliver]
  unfold State.clockInput
  dsimp only
  split
  · exact .aside (.setInput rfl hranges fun _ => State.mayBeDue_edgeReceivers)
  · exact .aside (.setInput (hnil _).symm hranges nofun)

theorem State.quiet_sourceEvent (k : TimebaseId) : State.Quiet s (s.sourceEvent k) := by
  unfold State.sourceEvent
  dsimp only
  split
  · next hrun =>
    split
    · refine .aside (.timebase (k := k) (x := (s.timebase k).reloaded) rfl (fun h => ?_) fun h => ?_)
      · have hin := h.inRange k
        have hd : 1 ≤ (s.timebase k).pendingDivisor.getD (s.timebase k).divisor ∧
            (s.timebase k).pendingDivisor.getD (s.timebase k).divisor ≤ 65536 := by
          cases hp : (s.timebase k).pendingDivisor with
          | none => exact hin.divisor
          | some d => exact hin.pending d hp
        exact h.setTimebase ⟨hd, hd, nofun, fun _ => Nat.le_refl _, fun _ => rfl⟩ (fun _ => h.source) (.inl hrun)
      · exact State.DueLaw.deliver (h.setTimebase fun hr => ⟨hr, rfl⟩) fun d hd =>
          State.mayBeDue_setTimebase (x := (s.timebase k).reloaded) (fun hr => ⟨hr, rfl⟩) (State.mayBeDue_tickUsers hrun hd)
    · refine .aside (.setTimebase (fun h => ⟨h.divisor, ?_, h.pending, fun hr => ?_, h.stopped⟩) (fun h _ => h.source)
        fun hr => ⟨hr, rfl⟩)
      · have := h.count; dsimp only; omega
      · have := h.within hr; dsimp only; omega
  · exact .aside (.of_parts rfl rfl rfl rfl rfl (fun _ => ⟨rfl, rfl, rfl, rfl, rfl⟩) rfl rfl rfl fun _ h => h)

end

end Sys2Proof.Machine
end

section
/-! SUPPORT. Every command comes to a chain of acts that ends with its levels settled. -/

namespace Sys2Proof.Machine

set_option Elab.async false

section
variable {s : State}

/-- What takes a happening that is due does nothing where it is not. -/
theorem State.acts_takeDue {test : Due → Bool} {f : State → State}
    (h : ∀ t, s.takeDue test = some t → State.Acts s true (f t)) :
    State.Acts s true (match s.takeDue test with
      | none => s
      | some t => f t) := by
  split
  · exact .refl
  · next t ht => exact h t ht

theorem State.acts_breakAt (p : Port) : State.Acts s true (s.breakAt p) := by
  have htorn : s.Does (if (s.port p).isOpen then s.teardown p else s) := by
    split
    · exact (State.Loud.teardown p).does
    · exact .refl s
  exact (htorn.quiet (.aside (.setPort (p := p) (x := { (State.port _ p) with holder := .vacant, lastSeq := none, stored := .idle, transaction := none })
    ⟨rfl, rfl, rfl, rfl, rfl⟩))).settle

theorem State.acts_takePermitTick (i : SlotId) (test : Permit → Bool) : State.Acts s true (s.takePermitTick i test) := by
  refine State.acts_outOfReset ?_
  split
  · exact .refl
  split
  · refine State.acts_takeDue fun t ht => State.Does.settle ?_
    exact (State.Quiet.does (.aside (.takeDue ht))).loud
      (.whole (State.whole_permitTick rfl t i) fun h => h.permitTick i)
  · exact .refl

theorem State.does_senseTick (l : LineId) (high : Bool) : s.Does (s.senseTick l high) := by
  have hwrite : ∀ n, State.Quiet s (s.setLine l { s.line l with mismatch := n }) := fun n =>
    .aside (.setLine_checking ⟨rfl, rfl, fun h => h⟩ ⟨rfl, rfl⟩)
  unfold State.senseTick
  dsimp only
  split
  · split
    · exact (hwrite 0).does
    split
    · exact (hwrite _).does.loud (.lock l .sense)
    · exact (hwrite _).does
  · exact .refl s

theorem State.does_gapTickAt (g : GroupId) : s.Does (s.gapTickAt g) :=
  (State.Loud.whole (State.whole_gapTickAt s g) fun h => h.of_whole (State.whole_gapTickAt (k := .run) s g) rfl).does

theorem State.quiet_takeSourceEvent {t : State} {k : TimebaseId} (h : s.takeSourceEvent k = some t) : State.Quiet s t := by
  unfold State.takeSourceEvent at h
  split at h
  · cases h; exact .aside (.due_le fun _ h => h)
  · exact .aside (.takeDue h)
  · exact .aside (.takeDue h)

/-! ### Happenings -/

theorem acts_execUnknownRequest : ∃ t, execUnknownRequest s = .next t ∧ State.Acts s true t := by
  refine ⟨_, rfl, State.acts_outOfReset ?_⟩
  split
  · exact .refl
  split
  · exact State.Does.finish (.refl s)
  · exact .refl

theorem acts_execTransactionStart (p : Port) : ∃ t, execTransactionStart p s = .next t ∧ State.Acts s true t := by
  refine ⟨_, rfl, State.acts_outOfReset ?_⟩
  dsimp only
  split
  · exact .refl
  · exact (State.Acts.refl.quiet (.aside (.drawn s))).quiet (.aside (.setPort ⟨rfl, rfl, rfl, rfl, rfl⟩))

theorem PortUnit.judge_keeps (u : PortUnit) (t : ShiftOut) (bytes : List Byte) :
    (u.judge t bytes).isOpen = u.isOpen ∧ (u.judge t bytes).session = u.session ∧ (u.judge t bytes).owned = u.owned ∧
      (u.judge t bytes).quota = u.quota ∧ (u.judge t bytes).attention = u.attention := by
  unfold PortUnit.judge
  split
  · exact ⟨rfl, rfl, rfl, rfl, rfl⟩
  split
  · exact ⟨rfl, rfl, rfl, rfl, rfl⟩
  split
  · exact ⟨rfl, rfl, rfl, rfl, rfl⟩
  split
  · exact ⟨rfl, rfl, rfl, rfl, rfl⟩
  · exact ⟨rfl, rfl, rfl, rfl, rfl⟩

theorem acts_execRequestFrame (p : Port) (bits : List Bool) : ∃ t, execRequestFrame p bits s = .next t ∧ State.Acts s true t := by
  refine ⟨_, rfl, State.acts_outOfReset ?_⟩
  dsimp only
  split
  · exact .refl
  next t _ =>
  split
  · exact State.acts_breakAt p
  · exact State.Acts.refl.quiet (.aside (.setPort ((s.port p).judge_keeps t (bytesOf bits))))

theorem acts_execBreakPort (p : Port) : ∃ t, execBreakPort p s = .next t ∧ State.Acts s true t := by
  refine ⟨_, rfl, State.acts_outOfReset ?_⟩
  split
  · exact .refl
  · exact State.acts_breakAt p

theorem acts_execResetRelease (low : Bool) : ∃ t, execResetRelease low s = .next t ∧ State.Acts s true t := by
  refine ⟨_, rfl, ?_⟩
  split
  · next h => exact State.Acts.refl.quiet (.released h low)
  · exact .refl

theorem acts_execTimebaseSourceEvent (k : TimebaseId) : ∃ t, execTimebaseSourceEvent k s = .next t ∧ State.Acts s true t := by
  refine ⟨_, rfl, State.acts_outOfReset ?_⟩
  split
  · exact .refl
  · next t ht => exact (State.Acts.refl.quiet (State.quiet_takeSourceEvent ht)).quiet (State.quiet_sourceEvent t k)

theorem acts_execTimebaseTick (k : TimebaseId) : ∃ t, execTimebaseTick k s = .next t ∧ State.Acts s true t := by
  refine ⟨_, rfl, State.acts_outOfReset ?_⟩
  split
  · exact .refl
  next t ht =>
  split
  · exact (State.Acts.refl.quiet (State.quiet_takeSourceEvent ht)).quiet (State.quiet_sourceEvent t k)
  · exact .refl

theorem acts_execFilteredEdge (n : InputId) (raw : Bool) : ∃ t, execFilteredEdge n raw s = .next t ∧ State.Acts s true t := by
  refine ⟨_, rfl, State.acts_outOfReset ?_⟩
  split
  · exact State.Acts.refl.quiet (State.does_clockInput s n raw)
  · exact .refl

theorem acts_execInputTrigger (i : SlotId) : ∃ t, execInputTrigger i s = .next t ∧ State.Acts s true t := by
  refine ⟨_, rfl, State.acts_outOfReset (State.acts_takeDue fun t ht => State.Does.settle ?_)⟩
  exact (State.Quiet.does (.aside (.takeDue ht))).loud
    (.whole (State.whole_takeTrigger rfl t i) fun h => h.of_whole (State.whole_takeTrigger (k := .stop) rfl t i) rfl)

theorem acts_execInputRenewal (i : SlotId) : ∃ t, execInputRenewal i s = .next t ∧ State.Acts s true t := by
  refine ⟨_, rfl, State.acts_outOfReset (State.acts_takeDue fun t ht => State.Does.settle ?_)⟩
  exact (State.Quiet.does (.aside (.takeDue ht))).loud (.whole (State.whole_takeRenewal rfl t i) fun h => h.takeRenewal i)

theorem acts_execGapTick (g : GroupId) : ∃ t, execGapTick g s = .next t ∧ State.Acts s true t := by
  refine ⟨_, rfl, State.acts_outOfReset (State.acts_takeDue fun t ht => ?_)⟩
  exact ((State.Quiet.does (.aside (.takeDue ht))).loud
    (.whole (State.whole_gapTickAt t g) fun h => h.of_whole (State.whole_gapTickAt (k := .run) t g) rfl)).settle

theorem acts_execGapEnd (g : GroupId) : ∃ t, execGapEnd g s = .next t ∧ State.Acts s true t := by
  refine ⟨_, rfl, State.acts_outOfReset (State.acts_takeDue fun t ht => ?_)⟩
  split
  · exact ((State.Quiet.does (.aside (.takeDue ht))).loud
      (.whole (State.whole_gapTickAt t g) fun h => h.of_whole (State.whole_gapTickAt (k := .run) t g) rfl)).settle
  · exact .refl

theorem State.Does.trans {t u : State} (h : s.Does t) (h' : t.Does u) : s.Does u := by
  obtain ⟨b, h'⟩ := h'
  induction h' with
  | refl => exact h
  | quiet _ hq ih => exact ih.quiet hq
  | loud _ hl ih => exact ih.loud hl
  | settle _ ih => exact ⟨true, ih.settle⟩

theorem acts_execSenseCheck (l : LineId) (high : Bool) : ∃ t, execSenseCheck l high s = .next t ∧ State.Acts s true t := by
  refine ⟨_, rfl, State.acts_outOfReset (State.acts_takeDue fun t ht => State.Does.settle ?_)⟩
  exact (State.Quiet.does (.aside (.takeDue ht))).trans (t.does_senseTick l high)

theorem acts_execSenseLock (l : LineId) (high : Bool) : ∃ t, execSenseLock l high s = .next t ∧ State.Acts s true t := by
  refine ⟨_, rfl, State.acts_outOfReset (State.acts_takeDue fun t ht => ?_)⟩
  split
  · exact ((State.Quiet.does (.aside (.takeDue ht))).trans (t.does_senseTick l high)).settle
  · exact .refl

end

/-- A row of the table that the engine executes comes to what its requests do. -/
theorem acts_request {s : State} {run : Port → Request → Option Reply}
    (h : s.resetLow = false → ∀ p r reply, run p r = some reply → s.Does reply.state) :
    ∃ t, (Host.Outcome.next (s.execute run) : Host.Outcome State Fault Refusal) = .next t ∧ State.Acts s true t :=
  ⟨_, rfl, State.acts_execute h⟩

/-- Every command answers a next state, and comes to acts that end with the levels settled. -/
theorem exec_acts (c : Instr) (s : State) : ∃ t, exec c s = .next t ∧ State.Acts s true t := by
  cases c with
  | reset => exact ⟨_, rfl, State.Acts.refl.quiet .resets⟩
  | resetRelease low => exact acts_execResetRelease low
  | transactionStart p => exact acts_execTransactionStart p
  | requestFrame p bits => exact acts_execRequestFrame p bits
  | breakPort p => exact acts_execBreakPort p
  | unknownRequest => exact acts_execUnknownRequest
  | openSession => exact acts_request fun _ p r reply hr => by split at hr <;> cases hr; exact State.does_runOpen s p
  | closeSession => exact acts_request fun _ p r reply hr => by split at hr <;> cases hr; exact State.does_runClose s p
  | status => exact acts_request fun _ p r reply hr => by split at hr <;> cases hr; exact State.Does.refl s
  | readLines => exact acts_request fun _ p r reply hr => by split at hr <;> cases hr; exact State.Does.refl s
  | create => exact acts_request fun live p r reply hr => by split at hr <;> cases hr; exact State.does_runCreate s p live _
  | arm => exact acts_request fun _ p r reply hr => by split at hr <;> cases hr; exact State.does_runArm s p _
  | fire => exact acts_request fun _ p r reply hr => by split at hr <;> cases hr; exact State.does_runFire s p _
  | renew => exact acts_request fun _ p r reply hr => by split at hr <;> cases hr; exact State.does_runRenew s p _
  | release => exact acts_request fun _ p r reply hr => by split at hr <;> cases hr; exact State.does_runRelease s p _
  | amend => exact acts_request fun _ p r reply hr => by split at hr <;> cases hr; exact State.does_runAmend s p _
  | retire => exact acts_request fun _ p r reply hr => by split at hr <;> cases hr; exact State.does_runRetire s p _
  | query => exact acts_request fun _ p r reply hr => by split at hr <;> cases hr; exact State.does_runQuery s p _
  | listTable => exact acts_request fun _ p r reply hr => by split at hr <;> cases hr; exact State.does_runList s p _
  | nextAttention => exact acts_request fun _ p r reply hr => by split at hr <;> cases hr; exact State.does_runNextAttention s p
  | ackPermitEntry => exact acts_request fun _ p r reply hr => by split at hr <;> cases hr; exact State.does_runAckPermit s p _ _
  | ackLineEntry => exact acts_request fun _ p r reply hr => by split at hr <;> cases hr; exact State.does_runAckLine s p _
  | ackQuenchEntry => exact acts_request fun _ p r reply hr => by split at hr <;> cases hr; exact State.does_runAckQuench s p
  | revoke => exact acts_request fun _ p r reply hr => by split at hr <;> cases hr; exact State.does_runRevoke s p _
  | setTimebase => exact acts_request fun _ p r reply hr => by split at hr <;> cases hr; exact State.does_runSetTimebase s p _ _ _ _
  | startTimebase => exact acts_request fun _ p r reply hr => by split at hr <;> cases hr; exact State.does_runStartTimebase s p _
  | stopTimebase => exact acts_request fun _ p r reply hr => by split at hr <;> cases hr; exact State.does_runStopTimebase s p _
  | setInput => exact acts_request fun _ p r reply hr => by split at hr <;> cases hr; exact State.does_runSetInput s p _ _ _
  | setLine => exact acts_request fun _ p r reply hr => by split at hr <;> cases hr; exact State.does_runSetLine s p _ _ _ _ _ _
  | setGroup => exact acts_request fun _ p r reply hr => by split at hr <;> cases hr; exact State.does_runSetGroup s p _ _ _ _
  | lockLine => exact acts_request fun _ p r reply hr => by split at hr <;> cases hr; exact State.does_runLockLine s p _
  | clearLine => exact acts_request fun _ p r reply hr => by split at hr <;> cases hr; exact State.does_runClearLine s p _
  | setQuota => exact acts_request fun _ p r reply hr => by split at hr <;> cases hr; exact State.does_runSetQuota s p _ _
  | quenchSet => exact acts_request fun _ p r reply hr => by split at hr <;> cases hr; exact State.does_runQuenchSet s p
  | quenchClear => exact acts_request fun _ p r reply hr => by split at hr <;> cases hr; exact State.does_runQuenchClear s p
  | clearTable => exact acts_request fun _ p r reply hr => by split at hr <;> cases hr; exact State.does_runClearTable s p
  | timebaseSourceEvent k => exact acts_execTimebaseSourceEvent k
  | timebaseTick k => exact acts_execTimebaseTick k
  | inputSample n raw => exact ⟨_, rfl, State.acts_outOfReset (State.Acts.refl.quiet (s.does_clockInput n raw))⟩
  | filteredEdge n raw => exact acts_execFilteredEdge n raw
  | inputTrigger i => exact acts_execInputTrigger i
  | inputRenewal i => exact acts_execInputRenewal i
  | armingTick i => exact ⟨_, rfl, State.acts_takePermitTick i _⟩
  | phaseTick i => exact ⟨_, rfl, State.acts_takePermitTick i _⟩
  | waitEnd i => exact ⟨_, rfl, State.acts_takePermitTick i _⟩
  | pulseHoldEnd i => exact ⟨_, rfl, State.acts_takePermitTick i _⟩
  | trainHoldEnd i => exact ⟨_, rfl, State.acts_takePermitTick i _⟩
  | restEnd i => exact ⟨_, rfl, State.acts_takePermitTick i _⟩
  | leaseExpiry i => exact ⟨_, rfl, State.acts_takePermitTick i _⟩
  | blockedTick i => exact ⟨_, rfl, State.acts_takePermitTick i _⟩
  | starvation i => exact ⟨_, rfl, State.acts_takePermitTick i _⟩
  | gapTick g => exact acts_execGapTick g
  | gapEnd g => exact acts_execGapEnd g
  | senseCheck l high => exact acts_execSenseCheck l high
  | senseLock l high => exact acts_execSenseLock l high
  | quenchPinChange low => exact ⟨_, rfl, State.acts_outOfReset (State.Does.settle (State.Loud.quench low s.latch).does)⟩

end Sys2Proof.Machine
end

section
/-! SUPPORT. The laws at reset (R1). -/

namespace Sys2Proof.Machine

set_option Elab.async false

section
variable (cs : List Instr) (n : Nat)

@[simp] theorem State.slot_resetAs (i : SlotId) : (State.resetAs cs n).slot i = Slot.reset := Vector.getElem_replicate ..

@[simp] theorem State.permit_resetAs (i : SlotId) : (State.resetAs cs n).permit i = none := by simp [State.permit, Slot.reset]

@[simp] theorem State.line_resetAs (l : LineId) : (State.resetAs cs n).line l = Line.reset := Vector.getElem_replicate ..

@[simp] theorem State.group_resetAs (g : GroupId) : (State.resetAs cs n).group g = Group.reset := Vector.getElem_replicate ..

@[simp] theorem State.timebase_resetAs (k : TimebaseId) : (State.resetAs cs n).timebase k = Timebase.reset := Vector.getElem_replicate ..

@[simp] theorem State.input_resetAs (m : InputId) : (State.resetAs cs n).input m = Input.reset := Vector.getElem_replicate ..

@[simp] theorem State.port_resetAs (p : Port) : (State.resetAs cs n).port p = PortUnit.reset := Vector.getElem_replicate ..

theorem State.resolve_resetAs (h : Handle) : (State.resetAs cs n).resolve h = none := by simp [State.resolve]

theorem State.slotsWith_resetAs (test : Permit → Bool) : (State.resetAs cs n).slotsWith test = [] := by
  simp [State.slotsWith_eq]

theorem State.levelLaw_resetAs : (State.resetAs cs n).LevelLaw := fun l => by simp [Line.reset]

theorem State.claimLaw_resetAs : (State.resetAs cs n).ClaimLaw := fun l => by simp [State.claimants, State.slotsWith_resetAs, Line.reset]

theorem State.lockLaw_resetAs : (State.resetAs cs n).LockLaw := fun i p hp => by simp at hp

theorem State.quenchLaw_resetAs : (State.resetAs cs n).QuenchLaw := ⟨fun _ i p hp => by simp at hp, fun _ i => by simp⟩

theorem State.groupsHold_resetAs : (State.resetAs cs n).GroupsHold where
  claim := State.claimLaw_resetAs cs n
  members g g' l h := by simp [Group.has, Group.reset] at h
  grouped i p hp := by simp at hp
  bounded g := by simp [State.claimsBounded, Group.reset, Line.reset]

theorem State.holdersClaim_resetAs : (State.resetAs cs n).HoldersClaim := fun g l h => by simp [Group.reset] at h

theorem State.blockedLaw_resetAs : (State.resetAs cs n).BlockedLaw := fun i p hp => by simp at hp

theorem State.queueLaw_resetAs : (State.resetAs cs n).QueueLaw := fun g => by
  simp [State.blockedOn, State.blockedPermit, State.resolve_resetAs, Group.reset]

theorem State.quotaLaw_resetAs : (State.resetAs cs n).QuotaLaw := by simp [State.QuotaLaw, PortUnit.reset]

theorem State.ownerLaw_resetAs : (State.resetAs cs n).OwnerLaw := fun i p hp => by simp at hp

theorem State.countLaw_resetAs : (State.resetAs cs n).CountLaw := fun p => by simp [State.slotsWith_resetAs, PortUnit.reset]

theorem State.listLaw_resetAs : (State.resetAs cs n).ListLaw := by
  refine ⟨fun p => ?_, fun i p hp => by simp at hp⟩
  simp [State.awaits, State.resolve_resetAs, PortUnit.reset]

theorem State.timebaseLaw_resetAs : (State.resetAs cs n).TimebaseLaw :=
  ⟨fun k => by simp [Timebase.reset], fun i p hp => by simp at hp⟩

theorem State.inputLaw_resetAs : (State.resetAs cs n).InputLaw := fun m => by simp [Input.reset, Divider.edges]

theorem State.recordLaw_resetAs : (State.resetAs cs n).RecordLaw := fun i p hp => by simp at hp

theorem State.orphanLaw_resetAs : (State.resetAs cs n).OrphanLaw := fun i p hp => by simp at hp

theorem State.referenceLaw_resetAs : (State.resetAs cs n).ReferenceLaw := fun i p hp => by simp at hp

theorem State.dueLaw_resetAs : (State.resetAs cs n).DueLaw := fun _ h => nomatch h

end

end Sys2Proof.Machine
end

section
open Sys2Proof Sys2Proof.Machine

set_option Elab.async false

/-- Settles O51: every item is at its reset value, so that no permit, claim, queue or entry is there for a law to speak of. -/
theorem resetKeepsEveryLaw : Obligations.ResetKeepsEveryLaw := by
  have h : State.reset = State.resetAs State.reset.pending State.reset.freeCount := rfl
  unfold Obligations.ResetKeepsEveryLaw
  rw [h]
  exact ⟨State.levelLaw_resetAs _ _, State.exclusionLaw_iff.mpr ⟨State.levelLaw_resetAs _ _, State.groupsHold_resetAs _ _,
      State.holdersClaim_resetAs _ _⟩, State.lockLaw_resetAs _ _, State.quenchLaw_resetAs _ _, State.queueLaw_resetAs _ _,
    State.blockedLaw_resetAs _ _, State.quotaLaw_resetAs _ _, State.ownerLaw_resetAs _ _, State.countLaw_resetAs _ _,
    State.listLaw_resetAs _ _, State.timebaseLaw_resetAs _ _, State.inputLaw_resetAs _ _, State.recordLaw_resetAs _ _,
    State.orphanLaw_resetAs _ _, State.referenceLaw_resetAs _ _, State.dueLaw_resetAs _ _⟩

end

section
/-! SUPPORT. The permit records that CREATE and AMEND write (R15, R75), in their ranges. -/

namespace Sys2Proof.Machine

set_option Elab.async false

/-- The record that CREATE writes, its fields read (R15). -/
def createdRecord (o : Owner) (f : CreateFields) (shape : Shape) (tb : TimebaseId) (trigger : Trigger) (gate : Option Handle)
    (hold : Nat) (mask : NoticeSet) : Permit :=
  { owner := some o, shape := shape, lines := f.lines, timebase := tb, trigger := trigger, gate := gate,
    wait := f.wait.toNat, hold := hold, blockLimit := blockLimitOf f.blockLimit, mask := mask,
    retrigger := .ignore, orphan := .endRun, state := .idle, remaining := 0, cycles := 0, renewalAge := 0,
    blockedAge := 0, endReason := none, pending := {} }

/-- A CREATE has its record exactly when every field that applies can be read and it names a line (R12, R15). -/
theorem createRecord_eq_some {o : Owner} {f : CreateFields} {q : Permit} : createRecord o f = some q ↔
    ∃ shape tb trigger gate hold mask, shapeOf f = some shape ∧ indexOf 4 f.timebase = some tb ∧
      triggerOf f.trigKind f.trigInput f.pred = some trigger ∧ gateOf f.gatePresent f.gate = some gate ∧
      inRange 1 65535 f.hold.toNat = some hold ∧ maskOf f.mask = some mask ∧ f.lines ≠ 0 ∧
      q = createdRecord o f shape tb trigger gate hold mask := by
  simp only [createRecord, Option.bind_eq_bind, Option.bind_eq_some_iff, Option.ite_none_left_eq_some, Option.some.injEq]
  constructor
  · rintro ⟨shape, h1, tb, h2, trigger, h3, gate, h4, hold, h5, mask, h6, h7, rfl⟩
    exact ⟨shape, tb, trigger, gate, hold, mask, h1, h2, h3, h4, h5, h6, h7, rfl⟩
  · rintro ⟨shape, tb, trigger, gate, hold, mask, h1, h2, h3, h4, h5, h6, h7, rfl⟩
    exact ⟨shape, h1, tb, h2, trigger, h3, gate, h4, hold, h5, mask, h6, h7, rfl⟩

theorem word_le (w : Word) : w.toNat ≤ 65535 := by have := w.isLt; omega

theorem blockInRange_blockLimitOf (w : Word) : blockInRange (blockLimitOf w) 0 = true := by
  unfold blockLimitOf
  split
  · rfl
  · next h =>
    have : w.toNat ≠ 0 := fun h0 => h (BitVec.eq_of_toNat_eq h0)
    have := word_le w
    simp [blockInRange]
    omega

theorem maskOf_ended {b : Byte} {m : NoticeSet} (h : maskOf b = some m) : m.ended = false := by
  unfold maskOf at h
  split at h
  · next hb =>
    cases h
    simp only [noticesOf, BitVec.getLsbD, Nat.testBit_lt_two_pow (show b.toNat < 2 ^ 4 from hb)]
  · cases h

theorem shapeOf_inRange {f : CreateFields} {x : Shape} (h : shapeOf f = some x) : x.countsInRange 0 = true := by
  unfold shapeOf at h
  split at h
  · cases h; rfl
  · obtain ⟨rest, hr, rfl⟩ := Option.map_eq_some_iff.mp h
    obtain ⟨rfl, h1, h2⟩ := inRange_eq_some.mp hr
    have := word_le f.repeats
    simp [Shape.countsInRange]
    omega
  · obtain ⟨src, -, rfl⟩ := Option.map_eq_some_iff.mp h
    have := word_le f.minInterval
    simp [Shape.countsInRange]
    omega
  · cases h

theorem createRecord_inRanges {o : Owner} {f : CreateFields} {q : Permit} (h : createRecord o f = some q) : q.inRanges = true := by
  obtain ⟨shape, tb, trigger, gate, hold, mask, h1, -, -, -, h5, h6, h7, rfl⟩ := createRecord_eq_some.mp h
  obtain ⟨rfl, hh⟩ := inRange_eq_some.mp h5
  exact Permit.inRanges_iff.mpr ⟨⟨h7, hh, word_le _, maskOf_ended h6⟩, ⟨nofun, fun _ => rfl⟩, ⟨nofun, nofun⟩, shapeOf_inRange h1,
    Nat.zero_le _, nofun, blockInRange_blockLimitOf _⟩

/-- What CREATE writes whatever the request (R8, R15). -/
theorem createRecord_fresh {o : Owner} {f : CreateFields} {q : Permit} (h : createRecord o f = some q) :
    q.owner = some o ∧ q.state = .idle ∧ q.pending = {} ∧ q.trigger ≠ .chain none := by
  obtain ⟨shape, tb, trigger, gate, hold, mask, -, -, h3, -, -, -, -, rfl⟩ := createRecord_eq_some.mp h
  refine ⟨rfl, rfl, rfl, fun ht => ?_⟩
  rw [show trigger = .chain none from ht] at h3
  unfold triggerOf at h3
  split at h3
  · cases h3
  · obtain ⟨_, -, h⟩ := Option.map_eq_some_iff.mp h3; cases h
  · obtain ⟨_, -, h⟩ := Option.map_eq_some_iff.mp h3; cases h
  · cases h3

/-! ### AMEND (R74 to R80) -/

section
variable {p : Permit} {f : AmendFields}

theorem AmendFields.window_shape (hf : AmendFields.names f 4 = true → p.shape.isLease = true) :
    (AmendFields.shape f p.shape).window = if AmendFields.names f 4 then f.minInterval.toNat else p.shape.window := by
  cases hs : p.shape with
  | pulse => simp_all [AmendFields.shape, Shape.window, Shape.isLease]
  | train rest repeats => simp_all [AmendFields.shape, Shape.window, Shape.isLease]
  | lease src m => rfl

theorem AmendFields.isTrain_shape (x : Shape) : (AmendFields.shape f x).isTrain = x.isTrain := by cases x <;> rfl

theorem Permit.inRanges_amended (hp : p.inRanges = true) (ha : AmendFields.applies f p.shape = true)
    (hr : AmendFields.inRanges f = true) (m : Bool) : (p.amended f m).inRanges = true := by
  obtain ⟨⟨hl, hhold, hwait, hmask⟩, ⟨hrem, hrem0⟩, hend, hcyc, hage, hrest, hblock⟩ := Permit.inRanges_iff.mp hp
  have hbool : ∀ a b : Bool, (!a || b) = true → a = true → b = true := by decide
  simp only [AmendFields.inRanges, Bool.and_eq_true] at hr
  obtain ⟨⟨⟨⟨hr1, hr2⟩, hr6⟩, -⟩, -⟩ := hr
  simp only [AmendFields.applies, Bool.and_eq_true] at ha
  obtain ⟨ha23, ha4⟩ := ha
  have hrange : ∀ w : Word, (inRange 1 65535 w.toNat).isSome = true → 1 ≤ w.toNat ∧ w.toNat ≤ 65535 := fun w h => by
    obtain ⟨n, hn⟩ := Option.isSome_iff_exists.mp h
    exact (inRange_eq_some.mp hn).2
  have h1 := fun h => hrange f.hold (hbool _ _ hr1 h)
  have h2 := fun h => hrange f.rest (hbool _ _ hr2 h)
  have hwin := AmendFields.window_shape (p := p) (hbool _ _ ha4)
  refine Permit.inRanges_iff.mpr ⟨⟨hl, ?_, ?_, ?_⟩, ⟨fun hc => ?_, fun hc => ?_⟩, hend, ?_, ?_, ?_, ?_⟩
  · show 1 ≤ (if AmendFields.names f 1 then f.hold.toNat else p.hold) ∧ (if AmendFields.names f 1 then f.hold.toNat else p.hold) ≤ 65535
    split
    · next h => exact h1 h
    · exact hhold
  · show (if AmendFields.names f 0 then f.wait.toNat else p.wait) ≤ 65535
    split
    · exact word_le _
    · exact hwait
  · show (if AmendFields.names f 6 then noticesOf f.mask else p.mask).ended = false
    split
    · next h =>
      obtain ⟨x, hx⟩ := Option.isSome_iff_exists.mp (hbool _ _ hr6 h)
      have := hx
      unfold maskOf at this
      split at this
      · cases this; exact maskOf_ended hx
      · cases this
    · exact hmask
  · have hrem := hrem hc
    show 1 ≤ AmendFields.remaining f m p ∧ AmendFields.remaining f m p ≤ 65535
    have := word_le f.wait
    unfold AmendFields.remaining
    split
    · split
      · split
        · omega
        · exact hrem
      · split
        · next h => exact h1 h
        · exact hrem
      · split
        · next h => exact h2 h
        · exact hrem
      all_goals exact hrem
    · exact hrem
  · have hrem0 := hrem0 hc
    show AmendFields.remaining f m p = 0
    have hc : countsPhase p.state = false := hc
    unfold AmendFields.remaining
    split
    · split
      · next hs => rw [hs] at hc; cases hc
      · next hs => rw [hs] at hc; cases hc
      · next hs => rw [hs] at hc; cases hc
      all_goals exact hrem0
    · exact hrem0
  · show (AmendFields.shape f p.shape).countsInRange p.cycles = true
    cases hs : p.shape with
    | pulse => rw [hs] at hcyc; exact hcyc
    | train rest repeats =>
      rw [hs] at hcyc
      simp only [Shape.countsInRange, AmendFields.shape, Bool.and_eq_true, decide_eq_true_eq] at hcyc ⊢
      obtain ⟨⟨hrest', hrep⟩, hc⟩ := hcyc
      refine ⟨⟨?_, ?_⟩, hc⟩
      · split
        · next h => exact h2 h
        · exact hrest'
      · split
        · exact word_le _
        · exact hrep
    | lease src w =>
      rw [hs] at hcyc
      simp only [Shape.countsInRange, AmendFields.shape, Bool.and_eq_true, decide_eq_true_eq] at hcyc ⊢
      refine ⟨hcyc.1, ?_⟩
      split
      · exact word_le _
      · exact hcyc.2
  · show AmendFields.renewalAge f p ≤ (AmendFields.shape f p.shape).window
    rw [hwin]
    unfold AmendFields.renewalAge
    split
    · split
      · exact Nat.zero_le _
      · exact Nat.min_le_right ..
    · exact hage
  · intro hs
    exact (AmendFields.isTrain_shape p.shape).trans (hrest hs)
  · show blockInRange (if AmendFields.names f 5 then blockLimitOf f.blockLimit else p.blockLimit) (AmendFields.blockedAge f p) = true
    unfold AmendFields.blockedAge
    split
    · have := blockInRange_blockLimitOf f.blockLimit
      cases hb : blockLimitOf f.blockLimit with
      | none => simp [blockInRange]
      | some b => rw [hb] at this; exact this
    · exact hblock

end

end Sys2Proof.Machine
end

section
/-! SUPPORT. What the acts do to permits, claims, groups and what is due: the laws of lines, groups, locks, quench, records, timebases,
inputs and ticks through every act. -/

namespace Sys2Proof.Machine

set_option Elab.async false

/-! ### Permits through quiet acts -/

theorem State.evolve_of_slots {s t : State} (h : t.slots = s.slots) : s.PermitsEvolve t := fun j p hp =>
  ⟨p, by rw [← hp, State.permit_of_slots h], .refl _ _⟩

theorem State.evolve_setPermit {s : State} {i : SlotId} {p p' : Permit} (here : s.permit i = some p) (ev : p.Evolves s.quenched p') :
    s.PermitsEvolve (s.setPermit i p') := by
  intro j q hq
  rw [State.permit_setPermit] at hq
  split at hq
  · next h => subst h; cases hq; exact ⟨p, here, ev⟩
  · exact ⟨q, hq, .refl _ _⟩

theorem State.evolve_retire {s : State} {i : SlotId} {p : Permit} (here : s.permit i = some p) : s.PermitsEvolve (s.retire i) := by
  intro j q hq
  rw [State.permit_retire_any here] at hq
  split at hq
  · cases hq
  · obtain ⟨q0, hq0, rfl⟩ := Option.map_eq_some_iff.mp hq
    exact ⟨q0, hq0, q0.evolves_dropReference _ _⟩

theorem State.slots_acknowledge (s : State) (p : Port) (i : SlotId) (q : Permit) (kinds : NoticeSet) :
    (s.acknowledge p i q kinds).slots = (s.setPermit i { q with pending := q.pending.minus kinds }).slots := by
  unfold State.acknowledge
  dsimp only
  split
  · rfl
  · rfl

@[simp] theorem State.line_acknowledge (s : State) (p : Port) (i : SlotId) (q : Permit) (kinds : NoticeSet) (l : LineId) :
    (s.acknowledge p i q kinds).line l = s.line l := by
  unfold State.acknowledge
  dsimp only
  split
  · rfl
  · rfl

@[simp] theorem State.group_acknowledge (s : State) (p : Port) (i : SlotId) (q : Permit) (kinds : NoticeSet) (g : GroupId) :
    (s.acknowledge p i q kinds).group g = s.group g := by
  unfold State.acknowledge
  dsimp only
  split
  · rfl
  · rfl

theorem State.rest_acknowledge (s : State) (p : Port) (i : SlotId) (q : Permit) (kinds : NoticeSet) :
    (s.acknowledge p i q kinds).timebases = s.timebases ∧ (s.acknowledge p i q kinds).inputs = s.inputs ∧
      (s.acknowledge p i q kinds).quenched = s.quenched ∧ (s.acknowledge p i q kinds).resetLow = s.resetLow ∧
      (s.acknowledge p i q kinds).pending = s.pending ∧ (s.acknowledge p i q kinds).due = s.due := by
  unfold State.acknowledge
  dsimp only
  split
  · exact ⟨rfl, rfl, rfl, rfl, rfl, rfl⟩
  · exact ⟨rfl, rfl, rfl, rfl, rfl, rfl⟩

theorem State.permit_place (s : State) (p : Port) (i : SlotId) (q : Permit) (j : SlotId) :
    (s.place p i q).permit j = if i = j then some q else s.permit j := State.permit_setPermit s i j q

/-- A permit enters a slot: by ARM, or by CREATE. -/
structure State.Enters (s t : State) (i : SlotId) (q : Permit) : Prop where
  permit : ∀ j, t.permit j = if i = j then some q else s.permit j
  stopped : q.state.running = false
  ranges : s.RecordLaw → q.inRanges = true
  free : q.state.inService = true → s.anyLocked q.lines = false ∧ s.groupedCount q.lines ≤ 1 ∧
    (s.timebase q.timebase).running = true
  live : s.QuenchLaw → s.resetLow = false

theorem State.Quiet.evolves {s t : State} (h : State.Quiet s t) : s.PermitsEvolve t ∨ ∃ i q, s.Enters t i q := by
  cases h with
  | aside h => exact .inl (State.evolve_of_slots h.slots)
  | @arms i q here owned out quench locked grouped running =>
    refine .inr ⟨i, q.rearmed, fun j => State.permit_setPermit s i j q.rearmed, rfl, fun hr => Permit.inRanges_rearmed (hr i q here),
      fun _ => ⟨locked, grouped, running⟩, fun hq => ?_⟩
    by_contra hlow
    rw [hq.2 (by simpa using hlow) i] at here
    cases here
  | amends here applies ranges =>
    exact .inl (State.evolve_setPermit here ⟨rfl, rfl, fun _ h => h, fun h => h, .inl,
      fun hr => Permit.inRanges_amended hr applies ranges _⟩)
  | @acks p i q here owned kinds =>
    exact .inl fun j p' hp' => State.evolve_setPermit (p' := { q with pending := q.pending.minus kinds }) here
      ⟨rfl, rfl, fun _ h => h, fun h => h, .inl, fun h => h⟩ j p' ((State.permit_of_slots (s.slots_acknowledge ..) j).symm.trans hp')
  | drops => exact .inl (State.evolve_of_slots rfl)
  | @places p i q f isOpen empty quota record pred gate live =>
    obtain ⟨-, hidle, -⟩ := createRecord_fresh record
    exact .inr ⟨i, q, s.permit_place p i q, by rw [hidle]; rfl, fun _ => createRecord_inRanges record,
      fun hs => (by rw [hidle] at hs; cases hs), fun _ => live⟩
  | retires here => exact .inl (State.evolve_retire here)
  | opens => exact .inl (State.evolve_of_slots rfl)
  | quota => exact .inl (State.evolve_of_slots rfl)
  | groups => exact .inl (State.evolve_of_slots rfl)
  | resets => exact .inl fun j p hp => absurd ((State.permit_resetAs _ _ j).symm.trans hp) nofun
  | released => exact .inl (State.evolve_of_slots rfl)

@[simp] theorem State.line_place (s : State) (p : Port) (i : SlotId) (q : Permit) (l : LineId) : (s.place p i q).line l = s.line l := rfl

/-- No quiet act locks a line. -/
theorem State.Quiet.locked {s t : State} (h : State.Quiet s t) (l : LineId) (hl : (t.line l).condition.isLocked = true) :
    (s.line l).condition.isLocked = true := by
  cases h with
  | aside h => exact (h.line l).2.2 hl
  | arms => exact hl
  | amends => exact hl
  | acks => rwa [State.line_acknowledge] at hl
  | drops => exact hl
  | places => exact hl
  | retires => rwa [State.line_retire] at hl
  | opens => exact hl
  | quota => exact hl
  | groups => exact hl
  | resets =>
    rw [State.line_resetAs] at hl
    cases hl
  | released => exact hl

theorem State.anyLocked_eq_false {s : State} {ls : LineSet} : s.anyLocked ls = false ↔
    ∀ l, ls.getLsbD l.val = true → (s.line l).condition.isLocked = false := by
  simp [State.anyLocked, allLines]

theorem State.LockLaw.of_evolve_le {s t : State} (h : s.LockLaw) (he : s.PermitsEvolve t)
    (hl : ∀ l, (t.line l).condition.isLocked = true → (s.line l).condition.isLocked = true) : t.LockLaw := by
  intro j p' hp' hs l hn
  obtain ⟨p, hp, ev⟩ := he j p' hp'
  have := h j p hp (ev.inService hs) l (by rwa [Permit.names, ev.lines] at hn)
  by_contra hc
  rw [hl l (by simpa using hc)] at this
  cases this

theorem State.Quiet.lockLaw {s t : State} (h : State.Quiet s t) (hs : s.LockLaw) : t.LockLaw := by
  obtain he | ⟨i, q, he⟩ := h.evolves
  · exact hs.of_evolve_le he h.locked
  · intro j p' hp' hin l hn
    have hfree : (s.line l).condition.isLocked = false := by
      have hp' : t.permit j = some p' := hp'
      rw [he.permit] at hp'
      split at hp'
      · cases hp'; exact State.anyLocked_eq_false.mp (he.free hin).1 l hn
      · exact hs j p' hp' hin l hn
    by_contra hc
    rw [h.locked l (by simpa using hc)] at hfree
    cases hfree

/-- Quench and reset through quiet acts. -/
theorem State.Quiet.quench {s t : State} (h : State.Quiet s t) :
    (t.quenched = s.quenched ∧ t.resetLow = s.resetLow) ∨ (s.QuenchLaw → t.QuenchLaw) := by
  cases h with
  | aside h => exact .inl ⟨h.quenched, h.resetLow⟩
  | arms => exact .inl ⟨rfl, rfl⟩
  | amends => exact .inl ⟨rfl, rfl⟩
  | @acks p i q _ _ kinds =>
    obtain ⟨-, -, h1, h2, -⟩ := s.rest_acknowledge p i q kinds
    exact .inl ⟨h1, h2⟩
  | drops => exact .inl ⟨rfl, rfl⟩
  | places => exact .inl ⟨rfl, rfl⟩
  | @retires _ i =>
    have hm := s.moves_retire i
    exact .inl ⟨hm.stands.quenched, hm.resetLow⟩
  | opens => exact .inl ⟨rfl, rfl⟩
  | quota => exact .inl ⟨rfl, rfl⟩
  | groups => exact .inl ⟨rfl, rfl⟩
  | resets => exact .inr fun _ => State.quenchLaw_resetAs _ _
  | released low => exact .inr fun hq => ⟨fun _ i p hp => absurd ((hq.2 low i).symm.trans hp) nofun, fun h => nomatch h⟩

theorem State.Quiet.quenchLaw {s t : State} (h : State.Quiet s t) (hs : s.QuenchLaw) : t.QuenchLaw := by
  obtain ⟨hq, hr⟩ | hk := h.quench
  · obtain he | ⟨i, q, he⟩ := h.evolves
    · exact hs.of_evolve he hq hr
    · refine ⟨fun hquench j p' hp' => ?_, fun hlow => ?_⟩
      · have hp' : t.permit j = some p' := hp'
        rw [he.permit] at hp'
        split at hp'
        · cases hp'; exact he.stopped
        · exact hs.1 (hq ▸ hquench) j p' hp'
      · rw [hr, he.live hs] at hlow; cases hlow
  · exact hk hs

theorem State.Quiet.recordLaw {s t : State} (h : State.Quiet s t) (hs : s.RecordLaw) : t.RecordLaw := by
  obtain he | ⟨i, q, he⟩ := h.evolves
  · exact hs.of_evolve he
  · intro j p' hp'
    have hp' : t.permit j = some p' := hp'
    rw [he.permit] at hp'
    split at hp'
    · cases hp'; exact he.ranges hs
    · exact hs j p' hp'

/-! ### Timebases and inputs -/

theorem State.Quiet.times {s t : State} (h : State.Quiet s t) :
    ((∀ k, t.timebase k = s.timebase k) ∧ ∀ n, t.input n = s.input n) ∨
      ((s.TimebaseLaw → t.TimebaseLaw) ∧ (s.InputLaw → t.InputLaw)) := by
  cases h with
  | aside h => exact .inr ⟨h.times, h.inputs⟩
  | arms => exact .inl ⟨fun _ => rfl, fun _ => rfl⟩
  | amends => exact .inl ⟨fun _ => rfl, fun _ => rfl⟩
  | @acks p i q _ _ kinds =>
    obtain ⟨h1, h2, -⟩ := s.rest_acknowledge p i q kinds
    exact .inl ⟨fun k => by simp only [State.timebase, h1], fun n => by simp only [State.input, h2]⟩
  | drops => exact .inl ⟨fun _ => rfl, fun _ => rfl⟩
  | places => exact .inl ⟨fun _ => rfl, fun _ => rfl⟩
  | @retires _ i =>
    have hm := (s.moves_retire i).stands
    exact .inl ⟨hm.timebase, hm.input⟩
  | opens => exact .inl ⟨fun _ => rfl, fun _ => rfl⟩
  | quota => exact .inl ⟨fun _ => rfl, fun _ => rfl⟩
  | groups => exact .inl ⟨fun _ => rfl, fun _ => rfl⟩
  | resets => exact .inr ⟨fun _ => State.timebaseLaw_resetAs _ _, fun _ => State.inputLaw_resetAs _ _⟩
  | released => exact .inl ⟨fun _ => rfl, fun _ => rfl⟩

theorem State.Quiet.inputLaw {s t : State} (h : State.Quiet s t) (hs : s.InputLaw) : t.InputLaw := by
  obtain ⟨-, hi⟩ | ⟨-, hk⟩ := h.times
  · intro n; rw [hi]; exact hs n
  · exact hk hs

theorem State.Quiet.timebaseLaw {s t : State} (h : State.Quiet s t) (hs : s.TimebaseLaw) : t.TimebaseLaw := by
  obtain ⟨ht, -⟩ | ⟨hk, -⟩ := h.times
  · obtain he | ⟨i, q, he⟩ := h.evolves
    · exact hs.of_evolve he ht
    · refine ⟨fun k => by simpa only [ht] using hs.1 k, fun j p' hp' hin => ?_⟩
      have hp' : t.permit j = some p' := hp'
      rw [he.permit] at hp'
      rw [ht]
      split at hp'
      · cases hp'; exact (he.free hin).2.2
      · exact hs.2 j p' hp' hin
  · exact hk hs

end Sys2Proof.Machine
end

section
/-! SUPPORT. The laws of claims, groups and queues through quiet acts (R84, R88 to R91). -/

namespace Sys2Proof.Machine

set_option Elab.async false

/-! ### Acts that leave claims, places and groups -/

theorem State.steady_of_claims {s t : State} (hs : t.slots = s.slots) (hl : ∀ l, (t.line l).claims = (s.line l).claims)
    (hg : ∀ g, t.group g = s.group g) : s.Steady t where
  claimsAt i l := by unfold State.claimsAt; rw [State.permit_of_slots hs]
  waitingAt i := by unfold State.waitingAt; rw [State.permit_of_slots hs, State.handle_of_slots hs]
  claims := hl
  group := hg

/-- A permit written with the state and the lines that it has. -/
theorem State.steady_setPermit {s : State} {i : SlotId} {p p' : Permit} (here : s.permit i = some p) (hs : p'.state = p.state)
    (hl : p'.lines = p.lines) : s.Steady (s.setPermit i p') := by
  refine .of_permits (fun _ => State.line_setPermit ..) (fun _ => State.group_setPermit ..) fun j => .inl ⟨?_, State.handle_setPermit ..⟩
  rw [State.permit_setPermit]
  split
  · next h => subst h; rw [here, Option.map_some, Option.map_some, hs, hl]
  · rfl

theorem State.Quiet.steady {s t : State} (h : State.Quiet s t) : s.Steady t ∨ t = State.resetAs s.pending s.freeCount ∨
    ∃ g ls gap tb, s.inOtherGroup g ls = false ∧ (s.group g).state = .free ∧ s.anyInServiceOn (s.group g).members = false ∧
      s.anyInServiceOn ls = false ∧
      t = (s.setGroup g { s.group g with members := ls, gap := gap, timebase := tb }).withdraw (Due.isForGroup g) := by
  cases h with
  | aside h => exact .inl (State.steady_of_claims h.slots (fun l => (h.line l).1) h.group)
  | @arms i q here _ out =>
    have hgrip : grips q.state = false := by cases hs : q.state <;> simp_all [grips, PState.inService]
    exact .inl (State.steady_rerun (p' := q.rearmed) here rfl (.inr ⟨hgrip, rfl⟩))
  | amends here => exact .inl (State.steady_setPermit here rfl rfl)
  | @acks p i q here _ kinds =>
    have hset := State.steady_setPermit (p' := { q with pending := q.pending.minus kinds }) here rfl rfl
    refine .inl ⟨fun j l => ?_, fun j => ?_, fun l => by rw [State.line_acknowledge], fun g => State.group_acknowledge ..⟩
    · rw [← hset.claimsAt]
      unfold State.claimsAt
      rw [State.permit_of_slots (s.slots_acknowledge ..)]
    · rw [← hset.waitingAt]
      unfold State.waitingAt
      rw [State.permit_of_slots (s.slots_acknowledge ..), State.handle_of_slots (s.slots_acknowledge ..)]
  | drops => exact .inl (State.steady_of_claims rfl (fun _ => rfl) fun _ => rfl)
  | @places p i q f _ empty _ record =>
    obtain ⟨-, hidle, -⟩ := createRecord_fresh record
    have hper := s.permit_place p i q
    refine .inl (.of_permits (fun _ => rfl) (fun _ => rfl) fun j => ?_)
    by_cases hj : i = j
    · refine .inr ⟨fun q' hq' => ?_, fun q' hq' => ?_⟩
      · rw [hper, if_pos hj] at hq'
        cases hq'
        rw [hidle]; rfl
      · rw [← hj, empty] at hq'
        cases hq'
    · refine .inl ⟨by rw [hper, if_neg hj], ?_⟩
      exact State.handle_setPermit s i j q
  | @retires p i q here _ out =>
    exact .inl (State.steady_retire here (by cases hs : q.state <;> simp_all [grips, PState.inService]))
  | opens => exact .inl (State.steady_of_claims rfl (fun _ => rfl) fun _ => rfl)
  | quota => exact .inl (State.steady_of_claims rfl (fun _ => rfl) fun _ => rfl)
  | @groups g ls gap tb apart free was will => exact .inr (.inr ⟨g, ls, gap, tb, apart, free, was, will, rfl⟩)
  | resets => exact .inr (.inl rfl)
  | released => exact .inl (State.steady_of_claims rfl (fun _ => rfl) fun _ => rfl)

theorem State.Quiet.levelLaw {s t : State} (h : State.Quiet s t) (hs : s.LevelLaw) : t.LevelLaw := by
  have of_line : (∀ l, (t.line l).claims = (s.line l).claims ∧ (t.line l).asserted = (s.line l).asserted) → t.LevelLaw := by
    intro hl l
    rw [(hl l).1, (hl l).2]
    exact hs l
  cases h with
  | aside h => exact of_line fun l => ⟨(h.line l).1, (h.line l).2.1⟩
  | arms => exact hs
  | amends => exact hs
  | acks => exact of_line fun l => by rw [State.line_acknowledge]; exact ⟨rfl, rfl⟩
  | drops => exact hs
  | places => exact hs
  | retires => exact of_line fun l => by rw [State.line_retire]; exact ⟨rfl, rfl⟩
  | opens => exact hs
  | quota => exact hs
  | groups => exact hs
  | resets => exact State.levelLaw_resetAs _ _
  | released => exact hs

/-! ### SET_GROUP (R89, R90) -/

theorem getLsbD_of_disjoint {n k : Nat} {x y : BitVec n} (h : x &&& y = 0) (hx : x.getLsbD k = true) : y.getLsbD k = false := by
  have := congrArg (fun z => BitVec.getLsbD z k) h
  simpa [hx] using this

theorem State.anyInServiceOn_eq_false {s : State} {ls : LineSet} (h : s.anyInServiceOn ls = false) {i : SlotId} {p : Permit}
    (hp : s.permit i = some p) (hs : p.state.inService = true) {l : LineId} (hl : p.names l = true) : ls.getLsbD l.val = false := by
  simp only [State.anyInServiceOn, Bool.not_eq_false', List.isEmpty_iff] at h
  have hno : i ∉ s.slotsWith fun q => q.state.inService && q.lines &&& ls ≠ 0 := by rw [h]; exact List.not_mem_nil
  rw [State.mem_slotsWith] at hno
  refine getLsbD_of_disjoint ?_ hl
  by_contra hne
  exact hno ⟨p, hp, by rw [hs]; simpa using hne⟩

theorem State.inOtherGroup_eq_false {s : State} {g g' : GroupId} {ls : LineSet} (h : s.inOtherGroup g ls = false) (hg : g' ≠ g)
    {l : LineId} (hl : (s.group g').has l = true) : ls.getLsbD l.val = false := by
  simp only [State.inOtherGroup, List.any_eq_false] at h
  have := h g' (List.mem_finRange g')
  exact getLsbD_of_disjoint (x := (s.group g').members) (by simpa [hg] using this) hl

section
variable {s : State} {g : GroupId} {ls : LineSet} {gap : Nat} {tb : TimebaseId} (apart : s.inOtherGroup g ls = false)
  (free : (s.group g).state = .free) (was : s.anyInServiceOn (s.group g).members = false) (will : s.anyInServiceOn ls = false)

/-- The part after SET_GROUP (R90). -/
def State.regrouped (s : State) (g : GroupId) (ls : LineSet) (gap : Nat) (tb : TimebaseId) : State :=
  (s.setGroup g { s.group g with members := ls, gap := gap, timebase := tb }).withdraw (Due.isForGroup g)

theorem State.group_regrouped (g' : GroupId) : (s.regrouped g ls gap tb).group g' =
    if g = g' then { s.group g with members := ls, gap := gap, timebase := tb } else s.group g' := State.group_setGroup ..

theorem State.state_regrouped (g' : GroupId) : ((s.regrouped g ls gap tb).group g').state = (s.group g').state ∧
    ((s.regrouped g ls gap tb).group g').queue = (s.group g').queue := by
  rw [State.group_regrouped]
  split
  · next h => subst h; exact ⟨rfl, rfl⟩
  · exact ⟨rfl, rfl⟩

theorem State.has_regrouped (g' : GroupId) (l : LineId) : ((s.regrouped g ls gap tb).group g').has l =
    if g = g' then ls.getLsbD l.val else (s.group g').has l := by
  rw [State.group_regrouped]
  split
  · rfl
  · rfl

include was will in
/-- A line that a permit in service names is a member of no group that it was not a member of, nor the reverse. -/
theorem State.has_regrouped_inService {i : SlotId} {p : Permit} (hp : s.permit i = some p) (hs : p.state.inService = true)
    {l : LineId} (hl : p.names l = true) (g' : GroupId) : ((s.regrouped g ls gap tb).group g').has l = (s.group g').has l := by
  rw [State.has_regrouped]
  split
  · next h =>
    subst h
    rw [State.anyInServiceOn_eq_false will hp hs hl]
    exact (State.anyInServiceOn_eq_false was hp hs hl).symm
  · rfl

include was will in
theorem State.meets_regrouped {i : SlotId} {p : Permit} (hp : s.permit i = some p) (hs : p.state.inService = true) (g' : GroupId) :
    (s.regrouped g ls gap tb).meets g' p.lines ↔ s.meets g' p.lines := by
  unfold State.meets
  refine exists_congr fun l => and_congr_right fun hl => ?_
  rw [State.has_regrouped_inService was will hp hs hl]

include was will in
theorem State.groupedLaw_regrouped (h : s.GroupedLaw) : (s.regrouped g ls gap tb).GroupedLaw := by
  intro i p hp hs
  have hp : s.permit i = some p := hp
  have hsame : (s.regrouped g ls gap tb).groupedCount p.lines = s.groupedCount p.lines := by
    unfold State.groupedCount
    congr 1
    refine List.filter_congr fun l _ => ?_
    cases hl : p.lines.getLsbD l.val with
    | false => rfl
    | true =>
      rw [Bool.eq_iff_iff]
      simp only [Bool.true_and, State.groupOf_isSome]
      exact exists_congr fun g' => by rw [State.has_regrouped_inService was will hp hs hl]
  rw [hsame]
  exact h i p hp hs

include apart was will free in
theorem State.groupsHold_regrouped (h : s.GroupsHold) : (s.regrouped g ls gap tb).GroupsHold where
  claim := h.claim
  members := by
    intro a b l ha hb
    rw [State.has_regrouped] at ha hb
    split at ha
    · next hga =>
      split at hb
      · next hgb => rw [← hga, hgb]
      · next hgb => exact absurd ha (by rw [State.inOtherGroup_eq_false apart (Ne.symm hgb) hb]; simp)
    · next hga =>
      split at hb
      · exact absurd hb (by rw [State.inOtherGroup_eq_false apart (Ne.symm hga) ha]; simp)
      · exact h.members a b l ha hb
  grouped := State.groupedLaw_regrouped was will h.grouped
  bounded := by
    intro g'
    obtain ⟨hpos, hheld⟩ := h.bounded g'
    refine ⟨fun l hl hc => ?_, fun l hl => ?_⟩
    · rw [State.has_regrouped] at hl
      rw [(State.state_regrouped g').1]
      split at hl
      · have hc : 0 < (s.line l).claims := hc
        rw [h.claim l, List.length_pos_iff_exists_mem] at hc
        obtain ⟨i, hi⟩ := hc
        obtain ⟨p, hp, hact⟩ := State.mem_slotsWith.mp hi
        obtain ⟨hst, hn⟩ := Bool.and_eq_true_iff.mp hact
        rw [State.anyInServiceOn_eq_false will hp (by rw [of_decide_eq_true hst]; rfl) hn] at hl
        cases hl
      · exact hpos l hl hc
    · rw [(State.state_regrouped g').1] at hl
      rw [State.has_regrouped]
      split
      · next hg => rw [← hg, free] at hl; cases hl
      · exact hheld l hl

include was will in
theorem State.blockedLaw_regrouped (h : s.BlockedLaw) : (s.regrouped g ls gap tb).BlockedLaw := by
  intro i p hp hb
  have hp : s.permit i = some p := hp
  obtain ⟨g', hg'⟩ := State.groupedLine_isSome.mp (h i p hp hb)
  exact State.groupedLine_isSome.mpr ⟨g', (State.meets_regrouped was will hp (by rw [hb]; rfl) g').mpr hg'⟩

include was will in
theorem State.queueLaw_regrouped (h : s.QueueLaw) : (s.regrouped g ls gap tb).QueueLaw := by
  intro g'
  obtain ⟨hnd, hmem, hfree⟩ := h g'
  rw [(State.state_regrouped g').1, (State.state_regrouped g').2]
  refine ⟨hnd, fun x => ?_, hfree⟩
  rw [hmem x, State.blockedOn_iff, State.blockedOn_iff]
  refine exists_congr fun xs => and_congr_right fun hw => ?_
  obtain ⟨p, hp, hb, heq⟩ := State.waitingAt_eq_some.mp hw
  rw [show xs = p.lines from congrArg Prod.snd heq]
  exact (State.meets_regrouped was will hp (by rw [hb]; rfl) g').symm

end

/-! ### The laws of groups -/

theorem State.Steady.members {s t : State} (h : s.Steady t) (g : GroupId) : (t.group g).members = (s.group g).members := by
  rw [h.group]

theorem State.Quiet.groupsHold {s t : State} (h : State.Quiet s t) (hs : s.GroupsHold) : t.GroupsHold := by
  obtain hst | rfl | ⟨g, ls, gap, tb, apart, free, was, will, rfl⟩ := h.steady
  · refine ⟨hst.claimLaw hs.claim, hs.members.of_members hst.members, ?_, fun g => hst.claimsBounded (hs.bounded g)⟩
    obtain he | ⟨i, q, he⟩ := h.evolves
    · exact hs.grouped.of_evolve hst.members he
    · intro j p' hp' hin
      have hp' : t.permit j = some p' := hp'
      rw [he.permit] at hp'
      rw [State.groupedCount_of_members hst.members]
      split at hp'
      · cases hp'; exact (he.free hin).2.1
      · exact hs.grouped j p' hp' hin
  · exact State.groupsHold_resetAs _ _
  · exact State.groupsHold_regrouped apart free was will hs

theorem State.Quiet.claimLaw {s t : State} (h : State.Quiet s t) (hs : s.ClaimLaw) : t.ClaimLaw := by
  obtain hst | rfl | ⟨g, ls, gap, tb, -, -, -, -, rfl⟩ := h.steady
  · exact hst.claimLaw hs
  · exact State.claimLaw_resetAs _ _
  · exact hs

theorem State.Quiet.holdersClaim {s t : State} (h : State.Quiet s t) (hs : s.HoldersClaim) : t.HoldersClaim := by
  obtain hst | rfl | ⟨g, ls, gap, tb, -, -, -, -, rfl⟩ := h.steady
  · exact hst.holdersClaim hs
  · exact State.holdersClaim_resetAs _ _
  · intro g' l hl
    have hstate := (State.state_regrouped (s := s) (g := g) (ls := ls) (gap := gap) (tb := tb) g').1
    exact hs g' l (hstate.symm.trans hl)

theorem State.Quiet.queues {s t : State} (h : State.Quiet s t) (hb : s.BlockedLaw) (hq : s.QueueLaw) :
    t.BlockedLaw ∧ t.QueueLaw := by
  obtain hst | rfl | ⟨g, ls, gap, tb, -, -, was, will, rfl⟩ := h.steady
  · exact ⟨hst.blockedLaw hb, hst.queueLaw hq⟩
  · exact ⟨State.blockedLaw_resetAs _ _, State.queueLaw_resetAs _ _⟩
  · exact ⟨State.blockedLaw_regrouped was will hb, State.queueLaw_regrouped was will hq⟩

end Sys2Proof.Machine
end

section
/-! SUPPORT. What is due through quiet acts (R47, R121, R131), and the laws through loud acts and the settling of levels. -/

namespace Sys2Proof.Machine

set_option Elab.async false

/-! ### What is due -/

/-- What is due stays so while its user goes on: timebases, groups and lines as they count, and a permit in service with the same
subscriptions. -/
theorem State.mayBeDue_of_users {s t : State} (ht : ∀ k, t.timebase k = s.timebase k)
    (hg : ∀ g, (t.group g).timebase = (s.group g).timebase)
    (hl : ∀ l, (t.line l).checkTimebase = (s.line l).checkTimebase ∧ (t.line l).senseOn = (s.line l).senseOn) {d : Due}
    (hd : s.mayBeDue d)
    (hp : ∀ h q, d.isFor h = true → s.resolve h = some q → q.state.inService = true →
      ∃ q', t.resolve h = some q' ∧ q'.state.inService = true ∧ (∀ n e, q.trigger = .input n e → q'.trigger = .input n e) ∧
        ∀ n e m, q.shape = .lease (.input n e) m → ∃ m', q'.shape = .lease (.input n e) m') : t.mayBeDue d := by
  cases d with
  | permitTick h =>
    obtain ⟨q, hq, hin⟩ := hd
    obtain ⟨q', hq', hin', -⟩ := hp h q (decide_eq_true rfl) hq hin
    exact ⟨q', hq', hin'⟩
  | groupTick k g => simpa only [State.mayBeDue, ht, hg] using hd
  | lineTick k l => simpa only [State.mayBeDue, ht, hl] using hd
  | sourceTick k tb => simpa only [State.mayBeDue, ht] using hd
  | sourceEdge n rising tb => simpa only [State.mayBeDue, ht] using hd
  | trigger h =>
    obtain ⟨q, hq, hin, n, e, htrig⟩ := hd
    obtain ⟨q', hq', hin', htrig', -⟩ := hp h q (decide_eq_true rfl) hq hin
    exact ⟨q', hq', hin', n, e, htrig' n e htrig⟩
  | renewal h =>
    obtain ⟨q, hq, hin, n, e, m, hsh⟩ := hd
    obtain ⟨q', hq', hin', -, hsh'⟩ := hp h q (decide_eq_true rfl) hq hin
    obtain ⟨m', hm'⟩ := hsh' n e m hsh
    exact ⟨q', hq', hin', n, e, m', hm'⟩

theorem State.mayBeDue_of_slots {s t : State} (hs : t.slots = s.slots) (ht : ∀ k, t.timebase k = s.timebase k)
    (hg : ∀ g, (t.group g).timebase = (s.group g).timebase)
    (hl : ∀ l, (t.line l).checkTimebase = (s.line l).checkTimebase ∧ (t.line l).senseOn = (s.line l).senseOn) {d : Due}
    (hd : s.mayBeDue d) : t.mayBeDue d :=
  State.mayBeDue_of_users ht hg hl hd fun h q _ hq hin =>
    ⟨q, (State.resolve_of_slots hs h).trans hq, hin, fun _ _ h => h, fun _ _ m h => ⟨m, h⟩⟩

/-- A permit written with the subscriptions that it has, in service if it was. -/
theorem State.DueLaw.setPermit {s : State} {i : SlotId} {p p' : Permit} (h : s.DueLaw) (here : s.permit i = some p)
    (hin : p.state.inService = true → p'.state.inService = true) (htrig : p'.trigger = p.trigger)
    (hshape : ∀ n e m, p.shape = .lease (.input n e) m → ∃ m', p'.shape = .lease (.input n e) m') : (s.setPermit i p').DueLaw := by
  intro d hd
  refine State.mayBeDue_of_users (s := s) (t := s.setPermit i p') (fun _ => rfl) (fun _ => rfl) (fun _ => ⟨rfl, rfl⟩) (h d hd) fun x q _ hq hs => ?_
  rw [State.resolve_setPermit]
  split
  · next hx =>
    rw [hx, State.resolve_handle, here] at hq
    cases hq
    exact ⟨p', rfl, hin hs, fun n e ht => htrig.trans ht, hshape⟩
  · exact ⟨q, hq, hs, fun _ _ h => h, fun _ _ m h => ⟨m, h⟩⟩

theorem State.DueLaw.of_slots {s t : State} (h : s.DueLaw) (hs : t.slots = s.slots) (ht : ∀ k, t.timebase k = s.timebase k)
    (hg : ∀ g, (t.group g).timebase = (s.group g).timebase)
    (hl : ∀ l, (t.line l).checkTimebase = (s.line l).checkTimebase ∧ (t.line l).senseOn = (s.line l).senseOn)
    (hd : ∀ d ∈ t.due, d ∈ s.due) : t.DueLaw :=
  fun d hm => State.mayBeDue_of_slots hs ht hg hl (h d (hd d hm))

/-- A retirement takes what is due at the permit with it. -/
theorem State.DueLaw.retire {s : State} {i : SlotId} {p : Permit} (h : s.DueLaw) (here : s.permit i = some p) :
    (s.retire i).DueLaw := by
  have hm := s.moves_retire i
  intro d hd
  rw [State.due_retire here, List.mem_filter, Bool.not_eq_true'] at hd
  refine State.mayBeDue_of_users hm.stands.timebase (fun g => by rw [hm.group g]) (fun l => by rw [hm.line l]; exact ⟨rfl, rfl⟩)
    (h d hd.1) fun x q hdx hq hs => ?_
  have hne : i ≠ x.slot := by
    rintro rfl
    rw [← (State.resolve_eq_some.mp hq).1, hdx] at hd
    exact absurd hd.2 (by simp)
  rw [State.resolve_retire here, if_neg hne, hq]
  exact ⟨_, rfl, by rwa [Permit.state_dropReference], fun n e => Permit.trigger_dropReference_input _,
    fun n e m hsh => ⟨m, by rwa [Permit.shape_dropReference]⟩⟩

/-- A permit placed in an EMPTY slot: nothing is due there. -/
theorem State.DueLaw.place {s : State} {p : Port} {i : SlotId} {q : Permit} (h : s.DueLaw) (empty : s.permit i = none) :
    (s.place p i q).DueLaw := by
  intro d hd
  refine State.mayBeDue_of_users (s := s) (t := s.place p i q) (fun _ => rfl) (fun _ => rfl) (fun _ => ⟨rfl, rfl⟩) (h d hd) fun x r _ hr hs =>
    ⟨r, ?_, hs, fun _ _ h => h, fun _ _ m h => ⟨m, h⟩⟩
  have hres : (s.place p i q).resolve x = (s.setPermit i q).resolve x := rfl
  rw [hres, State.resolve_setPermit, if_neg]
  · exact hr
  · intro hx
    rw [hx, State.resolve_handle, empty] at hr
    cases hr

theorem State.DueLaw.regrouped {s : State} {g : GroupId} {ls : LineSet} {gap : Nat} {tb : TimebaseId} (h : s.DueLaw) :
    (s.regrouped g ls gap tb).DueLaw := by
  intro d hd
  obtain ⟨hd, hfor⟩ := State.mem_due_withdraw.mp hd
  have hmay := h d hd
  cases d with
  | groupTick k g' =>
    have hne : g ≠ g' := by
      rintro rfl
      rw [show Due.isForGroup g (.groupTick k g) = true from decide_eq_true rfl] at hfor
      cases hfor
    refine ⟨?_, hmay.2⟩
    rw [State.group_regrouped, if_neg hne]
    exact hmay.1
  | permitTick => exact hmay
  | lineTick => exact hmay
  | sourceTick => exact hmay
  | sourceEdge => exact hmay
  | trigger => exact hmay
  | renewal => exact hmay

theorem State.Quiet.dueLaw {s t : State} (h : State.Quiet s t) (hs : s.TimebaseLaw) (hd : s.DueLaw) : t.DueLaw := by
  have same : ∀ n e m (x : Shape), x = .lease (.input n e) m → ∃ m', x = .lease (.input n e) m' := fun _ _ m _ h => ⟨m, h⟩
  cases h with
  | aside h => exact h.due hs hd
  | arms here => exact hd.setPermit here (fun _ => rfl) rfl fun n e m => same n e m _
  | @amends i q f m here =>
    refine hd.setPermit here (fun h => h) rfl fun n e w hsh => ⟨if AmendFields.names f 4 then f.minInterval.toNat else w, ?_⟩
    show AmendFields.shape f q.shape = _
    rw [hsh]; rfl
  | @acks p i q here _ kinds =>
    have hset : (s.setPermit i { q with pending := q.pending.minus kinds }).DueLaw :=
      hd.setPermit here (fun h => h) rfl fun n e m => same n e m _
    obtain ⟨h1, -, -, -, -, h6⟩ := s.rest_acknowledge p i q kinds
    exact hset.of_slots (s.slots_acknowledge ..) (fun k => by simp only [State.timebase, h1]; rfl)
      (fun g => by rw [State.group_acknowledge]; rfl) (fun l => by rw [State.line_acknowledge]; exact ⟨rfl, rfl⟩)
      (by rw [h6]; exact fun _ h => h)
  | drops => exact hd.of_slots rfl (fun _ => rfl) (fun _ => rfl) (fun _ => ⟨rfl, rfl⟩) fun _ h => h
  | places _ empty => exact hd.place empty
  | retires here => exact hd.retire here
  | opens => exact hd.of_slots rfl (fun _ => rfl) (fun _ => rfl) (fun _ => ⟨rfl, rfl⟩) fun _ h => h
  | quota => exact hd.of_slots rfl (fun _ => rfl) (fun _ => rfl) (fun _ => ⟨rfl, rfl⟩) fun _ h => h
  | groups => exact hd.regrouped
  | resets => exact State.dueLaw_resetAs _ _
  | released => exact hd.of_slots rfl (fun _ => rfl) (fun _ => rfl) (fun _ => ⟨rfl, rfl⟩) fun _ h => h

/-! ### Marks: what stands beside the permits -/

/-- An act that writes at most levels, conditions, ports and quench: no permit, no claim and no group. -/
structure State.Marks (s t : State) : Prop where
  slots : t.slots = s.slots
  line : ∀ l, (t.line l).claims = (s.line l).claims ∧ (t.line l).checkTimebase = (s.line l).checkTimebase ∧
    (t.line l).senseOn = (s.line l).senseOn
  group : ∀ g, t.group g = s.group g
  timebase : ∀ k, t.timebase k = s.timebase k
  input : ∀ n, t.input n = s.input n
  due : t.due = s.due
  resetLow : t.resetLow = s.resetLow
  pending : t.pending = s.pending
  owned : ∀ p, (t.port p).owned = (s.port p).owned ∧ (t.port p).quota = (s.port p).quota
  opened : ∀ p, (t.port p).isOpen = (s.port p).isOpen ∧ (t.port p).session = (s.port p).session

theorem State.Marks.refl (s : State) : s.Marks s :=
  ⟨rfl, fun _ => ⟨rfl, rfl, rfl⟩, fun _ => rfl, fun _ => rfl, fun _ => rfl, rfl, rfl, rfl, fun _ => ⟨rfl, rfl⟩, fun _ => ⟨rfl, rfl⟩⟩

theorem State.Marks.trans {s t u : State} (h : s.Marks t) (k : t.Marks u) : s.Marks u where
  slots := k.slots.trans h.slots
  line l := ⟨(k.line l).1.trans (h.line l).1, (k.line l).2.1.trans (h.line l).2.1, (k.line l).2.2.trans (h.line l).2.2⟩
  group g := (k.group g).trans (h.group g)
  timebase n := (k.timebase n).trans (h.timebase n)
  input n := (k.input n).trans (h.input n)
  due := k.due.trans h.due
  resetLow := k.resetLow.trans h.resetLow
  pending := k.pending.trans h.pending
  owned p := ⟨(k.owned p).1.trans (h.owned p).1, (k.owned p).2.trans (h.owned p).2⟩
  opened p := ⟨(k.opened p).1.trans (h.opened p).1, (k.opened p).2.trans (h.opened p).2⟩

/-- A port written but for its session, its owned count and its quota. -/
theorem State.marks_setPort {s : State} {p : Port} {x : PortUnit} (ho : x.owned = (s.port p).owned ∧ x.quota = (s.port p).quota)
    (hs : x.isOpen = (s.port p).isOpen ∧ x.session = (s.port p).session) : s.Marks (s.setPort p x) := by
  have hport : ∀ p', (s.setPort p x).port p' = if p = p' then x else s.port p' := fun p' => State.port_setPort ..
  refine ⟨rfl, fun _ => ⟨rfl, rfl, rfl⟩, fun _ => rfl, fun _ => rfl, fun _ => rfl, rfl, rfl, rfl, fun p' => ?_, fun p' => ?_⟩
  · rw [hport]
    split
    · next h => subst h; exact ho
    · exact ⟨rfl, rfl⟩
  · rw [hport]
    split
    · next h => subst h; exact hs
    · exact ⟨rfl, rfl⟩

theorem State.marks_appendEntry (s : State) (p : Port) (e : Entry) : s.Marks (s.appendEntry p e) :=
  State.marks_setPort ⟨rfl, rfl⟩ ⟨rfl, rfl⟩

theorem State.marks_placeLineEntry (s : State) (l : LineId) (c : LockCause) : s.Marks (s.placeLineEntry l c) := by
  unfold State.placeLineEntry
  dsimp only
  split
  · split
    · exact State.marks_setPort ⟨rfl, rfl⟩ ⟨rfl, rfl⟩
    · exact s.marks_appendEntry 0 _
  · exact .refl s

theorem State.marks_placeQuenchEntry (s : State) : s.Marks s.placeQuenchEntry := by
  unfold State.placeQuenchEntry
  dsimp only
  split
  · exact s.marks_appendEntry 0 _
  · exact .refl s

theorem Line.settle_keeps (x : Line) : x.settle.claims = x.claims ∧ x.settle.condition = x.condition ∧
    x.settle.checkTimebase = x.checkTimebase ∧ x.settle.senseOn = x.senseOn := by
  unfold Line.settle
  dsimp only
  split
  · exact ⟨rfl, rfl, rfl, rfl⟩
  · exact ⟨rfl, rfl, rfl, rfl⟩

theorem State.marks_settleLevels (s : State) : s.Marks s.settleLevels := by
  have hline : ∀ l, (s.settleLevels.line l).claims = (s.line l).claims ∧
      (s.settleLevels.line l).checkTimebase = (s.line l).checkTimebase ∧ (s.settleLevels.line l).senseOn = (s.line l).senseOn := by
    intro l
    obtain ⟨h1, -, h3, h4⟩ := (s.line l).settle_keeps
    rw [State.line_settleLevels]
    exact ⟨h1, h3, h4⟩
  exact ⟨by rfl, hline, State.group_mapLines s _, State.timebase_mapLines s _, State.input_mapLines s _, by rfl, by rfl, by rfl,
    fun p => by rw [State.settleLevels, State.port_mapLines]; exact ⟨rfl, rfl⟩,
    fun p => by rw [State.settleLevels, State.port_mapLines]; exact ⟨rfl, rfl⟩⟩

theorem State.marks_setLine {s : State} {l : LineId} {x : Line} (hx : x.claims = (s.line l).claims ∧
    x.checkTimebase = (s.line l).checkTimebase ∧ x.senseOn = (s.line l).senseOn) : s.Marks (s.setLine l x) := by
  refine ⟨rfl, fun l' => ?_, fun _ => rfl, fun _ => rfl, fun _ => rfl, rfl, rfl, rfl, fun _ => ⟨rfl, rfl⟩, fun _ => ⟨rfl, rfl⟩⟩
  rw [State.line_setLine]
  split
  · next h => subst h; exact hx
  · exact ⟨rfl, rfl, rfl⟩

/-- The line LOCKED, and P0's entry placed (R107, R109). -/
def State.marked (s : State) (l : LineId) (c : LockCause) : State :=
  (s.setLine l { s.line l with condition := .locked c }).placeLineEntry l c

theorem State.marks_marked (s : State) (l : LineId) (c : LockCause) : s.Marks (s.marked l c) :=
  (State.marks_setLine (x := { s.line l with condition := .locked c }) ⟨rfl, rfl, rfl⟩).trans (State.marks_placeLineEntry ..)

theorem State.marks_quench (s : State) (low latch : Bool) : s.Marks { s with quenchLow := low, latch := latch } :=
  ⟨rfl, fun _ => ⟨rfl, rfl, rfl⟩, fun _ => rfl, fun _ => rfl, fun _ => rfl, rfl, rfl, rfl, fun _ => ⟨rfl, rfl⟩, fun _ => ⟨rfl, rfl⟩⟩

/-- Every loud act marks, and then is a happening at the permits. -/
theorem State.Loud.parts {s t : State} (h : State.Loud s t) : ∃ k u, s.Marks u ∧ State.Whole k u t := by
  cases h with
  | whole h => exact ⟨.ends, s, .refl s, h⟩
  | teardown p => exact ⟨.table, s, .refl s, s.whole_teardown p⟩
  | clear => exact ⟨.table, s, .refl s, s.whole_clearAll⟩
  | lock l c => exact ⟨.ends, s.marked l c, s.marks_marked l c, State.whole_endMany_release rfl _ _⟩
  | quench low latch =>
    have hw := s.marks_quench low latch
    unfold State.setQuench
    dsimp only
    split
    · split
      · exact ⟨.ends, _, hw, .refl⟩
      · exact ⟨.ends, _, hw.trans (State.marks_placeQuenchEntry _), .refl⟩
    · split
      · exact ⟨.ends, _, hw.trans (State.marks_placeQuenchEntry _), State.whole_endMany_release rfl _ _⟩
      · exact ⟨.ends, _, hw, .refl⟩

section
variable {s t : State} (h : s.Marks t)
include h

theorem State.Marks.steady : s.Steady t := State.steady_of_claims h.slots (fun l => (h.line l).1) h.group

theorem State.Marks.evolve : s.PermitsEvolve t := State.evolve_of_slots h.slots

theorem State.Marks.groupsHold (hs : s.GroupsHold) : t.GroupsHold where
  claim := h.steady.claimLaw hs.claim
  members := hs.members.of_members h.steady.members
  grouped := hs.grouped.of_evolve h.steady.members h.evolve
  bounded g := h.steady.claimsBounded (hs.bounded g)

theorem State.Marks.timebaseLaw (hs : s.TimebaseLaw) : t.TimebaseLaw := hs.of_evolve h.evolve h.timebase

theorem State.Marks.inputLaw (hs : s.InputLaw) : t.InputLaw := fun n => by rw [h.input]; exact hs n

theorem State.Marks.dueLaw (hs : s.DueLaw) : t.DueLaw :=
  hs.of_slots h.slots h.timebase (fun g => by rw [h.group]) (fun l => (h.line l).2) (by rw [h.due]; exact fun _ h => h)

theorem State.Marks.recordLaw (hs : s.RecordLaw) : t.RecordLaw := hs.of_evolve h.evolve

theorem State.Marks.quotaLaw (hs : s.QuotaLaw) : t.QuotaLaw :=
  hs.of_owned (fun p => Nat.le_of_eq (h.owned p).1) fun p => (h.owned p).2

end

/-! ### Loud acts -/

section
variable {s t : State} (h : State.Loud s t)
include h

theorem State.Loud.claimLaw (hs : s.ClaimLaw) : t.ClaimLaw :=
  let ⟨_, _, hm, hw⟩ := h.parts
  hw.via.claimLaw (hm.steady.claimLaw hs)

theorem State.Loud.groupsHold (hs : s.GroupsHold) : t.GroupsHold :=
  let ⟨_, _, hm, hw⟩ := h.parts
  hw.via.groupsHold (hm.groupsHold hs)

theorem State.Loud.holdersClaim (hs : s.HoldersClaim) : t.HoldersClaim :=
  let ⟨_, _, hm, hw⟩ := h.parts
  hw.holdersClaim (hm.steady.holdersClaim hs)

theorem State.Loud.queuesHold (hs : s.QueuesHold) : t.QueuesHold := by
  obtain ⟨_, _, hm, hw⟩ := h.parts
  have hq := hm.steady.queueLaw (State.queueLaw_iff.mpr ⟨hs.match_, hs.free⟩)
  exact hw.via.queuesHold ⟨hm.groupsHold hs.groups, hm.steady.blockedLaw hs.blocked, (State.queueLaw_iff.mp hq).1,
    (State.queueLaw_iff.mp hq).2⟩

theorem State.Loud.timebaseLaw (hs : s.TimebaseLaw) : t.TimebaseLaw :=
  let ⟨_, _, hm, hw⟩ := h.parts
  hw.beats.timebaseLaw (hm.timebaseLaw hs)

theorem State.Loud.inputLaw (hs : s.InputLaw) : t.InputLaw := by
  obtain ⟨_, _, hm, hw⟩ := h.parts
  intro n
  rw [hw.beats.stands.input]
  exact hm.inputLaw hs n

theorem State.Loud.dueLaw (hs : s.DueLaw) : t.DueLaw :=
  let ⟨_, _, hm, hw⟩ := h.parts
  hw.beats.dueLaw (hm.dueLaw hs)

theorem State.Loud.recordLaw (hs : s.RecordLaw) : t.RecordLaw :=
  let ⟨_, _, hm, hw⟩ := h.parts
  hw.beats.recordLaw (hm.recordLaw hs)

theorem State.Loud.quotaLaw (hs : s.QuotaLaw) : t.QuotaLaw :=
  let ⟨_, _, hm, hw⟩ := h.parts
  hw.beats.quotaLaw (hm.quotaLaw hs)

theorem State.Loud.pending : t.pending = s.pending :=
  let ⟨_, _, hm, hw⟩ := h.parts
  hw.beats.stands.pending.trans hm.pending

end

end Sys2Proof.Machine
end

section
/-! SUPPORT. Locks and quench (R107, R114): what their ends leave in service. -/

namespace Sys2Proof.Machine

set_option Elab.async false

theorem State.endsBy_drawn {s t : State} {work : List (SlotId × EndReason)} {why : SlotId → Option EndReason}
    (h : s.drawn.EndsBy t work why) : s.EndsBy t work why := ⟨h.begins, h.only, h.closed, h.slots⟩

/-- Ends of several permits, each for a reason. -/
theorem State.endsBy_endMany {s : State} {work : List (SlotId × EndReason)} (hn : (work.map Prod.fst).Nodup)
    (hp : ∀ w ∈ work, (s.permit w.1).isSome = true) : ∃ why, s.EndsBy (s.endMany work) work why :=
  ((State.ending_endMany hn s).endsBy hn hp).imp fun _ => State.endsBy_drawn

/-- Ends of all permits of which a test is true, for one reason. -/
theorem State.endsBy_all (s : State) (test : Permit → Bool) (r : EndReason) :
    ∃ why, s.EndsBy (s.endMany ((s.slotsWith test).map fun i => (i, r))) ((s.slotsWith test).map fun i => (i, r)) why := by
  refine State.endsBy_endMany ?_ fun w hw => ?_
  · rw [List.map_map]
    simpa [Function.comp_def] using s.nodup_slotsWith test
  · obtain ⟨i, hi, rfl⟩ := List.mem_map.mp hw
    obtain ⟨p, hp, -⟩ := State.mem_slotsWith.mp hi
    rw [hp]; rfl

theorem State.unreferenced_stands (s : State) (gone : SlotId → Bool) (q : Permit) :
    (s.unreferenced gone q).lines = q.lines ∧ (s.unreferenced gone q).state = q.state := by
  unfold State.unreferenced
  split
  · exact ⟨rfl, rfl⟩
  · exact ⟨rfl, rfl⟩

section
variable {s t : State} {work : List (SlotId × EndReason)} {why : SlotId → Option EndReason} (h : s.EndsBy t work why)
include h

/-- What is in service after the ends was so before them, and is none of them. -/
theorem State.EndsBy.inService {j : SlotId} {p' : Permit} (hp : t.permit j = some p') (hs : p'.state.inService = true) :
    why j = none ∧ ∃ p, s.permit j = some p ∧ p.state = p'.state ∧ p.lines = p'.lines := by
  rw [State.permit, h.slots] at hp
  cases hw : why j with
  | some r =>
    rw [hw] at hp
    dsimp only at hp
    unfold Slot.endedBy at hp
    split at hp
    · next hnone => rw [hnone] at hp; cases hp
    · split at hp
      · cases hp
      · cases hp; cases hs
  | none =>
    rw [hw] at hp
    dsimp only at hp
    obtain ⟨p, hq, rfl⟩ := Option.map_eq_some_iff.mp hp
    obtain ⟨h1, h2⟩ := s.unreferenced_stands (s.orphansOf fun k => (why k).isSome) p
    exact ⟨rfl, p, hq, h2.symm, h1.symm⟩

end

/-- After the ends of all of a kind, none of that kind is in service. -/
theorem State.none_inService_endMany {s : State} {test : Permit → Bool} {r : EndReason}
    (htest : ∀ p p' : Permit, p.state = p'.state → p.lines = p'.lines → test p = test p') {j : SlotId} {p' : Permit}
    (hp : (s.endMany ((s.slotsWith test).map fun i => (i, r))).permit j = some p') (hs : p'.state.inService = true) :
    test p' = false := by
  obtain ⟨why, h⟩ := s.endsBy_all test r
  obtain ⟨hw, p, hp, h1, h2⟩ := h.inService hp hs
  rw [← htest p p' h1 h2]
  by_contra hne
  have hmem : j ∈ s.slotsWith test := State.mem_slotsWith.mpr ⟨p, hp, by simpa using hne⟩
  have := h.begins (j, r) (List.mem_map.mpr ⟨j, hmem, rfl⟩)
  rw [hw] at this
  cases this

/-! ### Locks -/

theorem State.beats_endMany (s : State) (work : List (SlotId × EndReason)) : State.Beats .ends s (s.endMany work) :=
  (State.via_endMany rfl s work).beats

theorem State.condition_marked (s : State) (l : LineId) (c : LockCause) (l' : LineId) :
    ((s.marked l c).line l').condition = if l = l' then .locked c else (s.line l').condition := by
  have hplace : ∀ u : State, (u.placeLineEntry l c).line l' = u.line l' := by
    intro u
    unfold State.placeLineEntry
    dsimp only
    split
    · split
      · rfl
      · rfl
    · rfl
  unfold State.marked
  rw [hplace, State.line_setLine]
  split
  · rfl
  · rfl

theorem State.LockLaw.lockBy {s : State} (h : s.LockLaw) (l : LineId) (c : LockCause) : (s.lockBy l c).LockLaw := by
  have hslots := (s.marks_marked l c).slots
  have hbeats := (s.marked l c).beats_endMany (((s.marked l c).inServiceOn l).map fun i => (i, .lineLocked))
  have hends : ((s.marked l c).endMany (((s.marked l c).inServiceOn l).map fun i => (i, .lineLocked))).LockLaw := by
    intro j p' hp' hs l' hl'
    rw [hbeats.stands.condition, State.condition_marked]
    split
    · next heq =>
      subst heq
      have := State.none_inService_endMany (fun a b h1 h2 => by rw [h1, Permit.names, Permit.names, h2]) hp' hs
      simp [hs, hl'] at this
    · obtain ⟨p, hp, ev⟩ := hbeats.evolves j p' hp'
      exact h j p ((State.permit_of_slots hslots j).symm.trans hp) (ev.inService hs) l' (by rwa [Permit.names, ev.lines] at hl')
  exact ((State.via_releaseGroups (k := .run) _).beats).lockLaw hends

/-! ### Quench -/

/-- The pin's level and the latch written, and P0's entry placed where the condition changes (R112, R116). -/
def State.quenchMarked (s : State) (low latch : Bool) : State :=
  if s.quenched = (low || latch) then { s with quenchLow := low, latch := latch }
  else State.placeQuenchEntry { s with quenchLow := low, latch := latch }

theorem State.marks_quenchMarked (s : State) (low latch : Bool) : s.Marks (s.quenchMarked low latch) := by
  unfold State.quenchMarked
  split
  · exact s.marks_quench low latch
  · exact (s.marks_quench low latch).trans (State.marks_placeQuenchEntry _)

theorem State.placeQuenchEntry_keeps (s : State) : s.placeQuenchEntry.lines = s.lines ∧ s.placeQuenchEntry.quenchLow = s.quenchLow ∧
    s.placeQuenchEntry.latch = s.latch := by
  unfold State.placeQuenchEntry
  dsimp only
  split
  · exact ⟨rfl, rfl, rfl⟩
  · exact ⟨rfl, rfl, rfl⟩

theorem State.quenchMarked_keeps (s : State) (low latch : Bool) : (s.quenchMarked low latch).lines = s.lines ∧
    (s.quenchMarked low latch).quenchLow = low ∧ (s.quenchMarked low latch).latch = latch := by
  unfold State.quenchMarked
  split
  · exact ⟨rfl, rfl, rfl⟩
  · exact State.placeQuenchEntry_keeps _

theorem State.quenched_quenchMarked (s : State) (low latch : Bool) : (s.quenchMarked low latch).quenched = (low || latch) := by
  obtain ⟨-, h1, h2⟩ := s.quenchMarked_keeps low latch
  rw [State.quenched, h1, h2]

/-- The quench unit writes; an onset then ends every running permit, and the groups take their releases (R112, R114). -/
theorem State.setQuench_eq (s : State) (low latch : Bool) : s.setQuench low latch =
    if s.quenched = false ∧ (low || latch) = true then
      ((s.quenchMarked low latch).endMany (((s.quenchMarked low latch).slotsWith fun p => p.state.running).map fun i =>
        (i, .quenched))).releaseGroups
    else s.quenchMarked low latch := by
  have hw : State.quenched { s with quenchLow := low, latch := latch } = (low || latch) := rfl
  unfold State.setQuench State.quenchMarked
  dsimp only
  rw [hw]
  cases hq : s.quenched <;> cases hc : (low || latch) <;> rfl

theorem State.QuenchLaw.setQuench {s : State} (h : s.QuenchLaw) (low latch : Bool) : (s.setQuench low latch).QuenchLaw := by
  have hm := s.marks_quenchMarked low latch
  have hreset : (s.quenchMarked low latch).resetLow = true → ∀ i, (s.quenchMarked low latch).permit i = none := fun hl i =>
    (State.permit_of_slots hm.slots i).trans (h.2 (hm.resetLow.symm.trans hl) i)
  rw [State.setQuench_eq]
  split
  · have hbeats := (s.quenchMarked low latch).beats_endMany
      (((s.quenchMarked low latch).slotsWith fun p => p.state.running).map fun i => (i, .quenched))
    refine ((State.via_releaseGroups (k := .run) _).beats).quenchLaw ⟨fun _ j p' hp' => ?_, fun hl j => ?_⟩
    · by_contra hr
      have hrun : p'.state.running = true := by simpa using hr
      have := State.none_inService_endMany (test := fun p => p.state.running) (fun a b h1 _ => by rw [h1]) hp'
        (PState.inService_of_running hrun)
      rw [hrun] at this
      cases this
    · cases hp : State.permit _ j with
      | none => rfl
      | some p' =>
        obtain ⟨p, hp, -⟩ := hbeats.evolves j p' hp
        rw [hreset (hbeats.stands.resetLow.symm.trans hl) j] at hp
        cases hp
  · next hno =>
    refine ⟨fun hq j p' hp' => ?_, hreset⟩
    rw [State.quenched_quenchMarked] at hq
    have hwas : s.quenched = true := by
      by_contra hc
      exact hno ⟨by simpa using hc, hq⟩
    exact h.1 hwas j p' ((State.permit_of_slots hm.slots j).symm.trans hp')

theorem State.Loud.lockLaw {s t : State} (h : State.Loud s t) (hs : s.LockLaw) : t.LockLaw := by
  cases h with
  | whole h => exact h.beats.lockLaw hs
  | teardown p => exact (s.whole_teardown p).beats.lockLaw hs
  | clear => exact s.whole_clearAll.beats.lockLaw hs
  | lock l c => exact hs.lockBy l c
  | quench low latch =>
    have hmarked : (s.quenchMarked low latch).LockLaw :=
      hs.of_evolve (s.marks_quenchMarked low latch).evolve fun l => by
        simp only [State.line, (s.quenchMarked_keeps low latch).1]
    rw [State.setQuench_eq]
    split
    · exact (State.whole_endMany_release (k := .ends) rfl _ _).beats.lockLaw hmarked
    · exact hmarked

theorem State.Loud.quenchLaw {s t : State} (h : State.Loud s t) (hs : s.QuenchLaw) : t.QuenchLaw := by
  cases h with
  | whole h => exact h.beats.quenchLaw hs
  | teardown p => exact (s.whole_teardown p).beats.quenchLaw hs
  | clear => exact s.whole_clearAll.beats.quenchLaw hs
  | lock l c =>
    have hmarks := s.marks_marked l c
    have hq : (s.marked l c).quenched = s.quenched := by
      unfold State.marked State.placeLineEntry
      dsimp only
      split
      · split
        · rfl
        · rfl
      · rfl
    exact (State.whole_endMany_release (k := .ends) rfl (s.marked l c) _).beats.quenchLaw
      (hs.of_evolve hmarks.evolve hq hmarks.resetLow)
  | quench low latch => exact hs.setQuench low latch

end Sys2Proof.Machine
end

section
/-! SUPPORT. The laws of lines, groups, locks, quench, records and times through every step. -/

namespace Sys2Proof.Machine

set_option Elab.async false

/-- What every act keeps, a chain of acts keeps. -/
theorem State.Acts.keep {P : State → Prop} {s t : State} {b : Bool} (h : State.Acts s b t)
    (hq : ∀ s t, State.Quiet s t → P s → P t) (hl : ∀ s t, State.Loud s t → P s → P t) (hm : ∀ s, P s → P s.settleLevels)
    (hs : P s) : P t := by
  induction h with
  | refl => exact hs
  | quiet _ h ih => exact hq _ _ h ih
  | loud _ h ih => exact hl _ _ h ih
  | settle _ ih => exact hm _ ih

/-- A step idles, or takes the front command and comes to a chain of acts. -/
theorem step_acts {s t : State} (h : step s = .next t) : ∃ cs, State.Acts { s with pending := cs } true t := by
  unfold step at h
  split at h
  · cases h; exact ⟨s.pending, .refl⟩
  · next c rest _ =>
    obtain ⟨u, hu, ha⟩ := exec_acts c { s with pending := rest }
    rw [hu] at h
    cases h
    exact ⟨rest, ha⟩

/-- What does not depend on the queue of commands, and every act keeps, every step keeps. -/
theorem step_keeps {P : State → Prop} {s t : State} (h : step s = .next t) (hp : ∀ cs, P { s with pending := cs })
    (hq : ∀ s t, State.Quiet s t → P s → P t) (hl : ∀ s t, State.Loud s t → P s → P t) (hm : ∀ s, P s → P s.settleLevels) : P t :=
  let ⟨cs, ha⟩ := step_acts h
  ha.keep hq hl hm (hp cs)

/-- After a chain of acts that ends settled every line has its level (R84). -/
theorem State.Acts.levelLaw {s t : State} {b : Bool} (h : State.Acts s b t) (hs : s.LevelLaw) (hb : b = true) : t.LevelLaw := by
  induction h with
  | refl => exact hs
  | quiet _ h ih => exact h.levelLaw (ih hb)
  | loud => cases hb
  | settle => exact State.levelLaw_settleLevels _

theorem State.LockLaw.settle {s : State} (h : s.LockLaw) : s.settleLevels.LockLaw :=
  h.of_evolve s.marks_settleLevels.evolve fun l => by rw [State.line_settleLevels]; exact (s.line l).settle_keeps.2.1

theorem State.QuenchLaw.settle {s : State} (h : s.QuenchLaw) : s.settleLevels.QuenchLaw :=
  h.of_evolve s.marks_settleLevels.evolve rfl rfl

theorem step_levelLaw {s t : State} (h : step s = .next t) (hs : s.LevelLaw) : t.LevelLaw :=
  let ⟨_, ha⟩ := step_acts h
  ha.levelLaw hs rfl

theorem step_claimLaw {s t : State} (h : step s = .next t) (hs : s.ClaimLaw) : t.ClaimLaw :=
  step_keeps (P := State.ClaimLaw) h (fun _ => hs) (fun _ _ h => h.claimLaw) (fun _ _ h => h.claimLaw) fun s h =>
    s.marks_settleLevels.steady.claimLaw h

theorem step_groupsHold {s t : State} (h : step s = .next t) (hs : s.GroupsHold) : t.GroupsHold :=
  step_keeps (P := State.GroupsHold) h (fun _ => ⟨hs.claim, hs.members, hs.grouped, hs.bounded⟩) (fun _ _ h => h.groupsHold)
    (fun _ _ h => h.groupsHold) fun s h => s.marks_settleLevels.groupsHold h

theorem step_holdersClaim {s t : State} (h : step s = .next t) (hs : s.HoldersClaim) : t.HoldersClaim :=
  step_keeps (P := State.HoldersClaim) h (fun _ => hs) (fun _ _ h => h.holdersClaim) (fun _ _ h => h.holdersClaim) fun s h =>
    s.marks_settleLevels.steady.holdersClaim h

theorem State.Quiet.queuesHold {s t : State} (h : State.Quiet s t) (hs : s.QueuesHold) : t.QueuesHold := by
  obtain ⟨hb, hq⟩ := h.queues hs.blocked (State.queueLaw_iff.mpr ⟨hs.match_, hs.free⟩)
  obtain ⟨hm, hf⟩ := State.queueLaw_iff.mp hq
  exact ⟨h.groupsHold hs.groups, hb, hm, hf⟩

theorem State.QueuesHold.settle {s : State} (h : s.QueuesHold) : s.settleLevels.QueuesHold := by
  have hm := s.marks_settleLevels
  obtain ⟨hq, hf⟩ := State.queueLaw_iff.mp (hm.steady.queueLaw (State.queueLaw_iff.mpr ⟨h.match_, h.free⟩))
  exact ⟨hm.groupsHold h.groups, hm.steady.blockedLaw h.blocked, hq, hf⟩

theorem step_queuesHold {s t : State} (h : step s = .next t) (hs : s.QueuesHold) : t.QueuesHold := by
  obtain ⟨hg, hb, hm, hf⟩ := hs
  exact step_keeps (P := State.QueuesHold) h (fun _ => ⟨⟨hg.claim, hg.members, hg.grouped, hg.bounded⟩, hb, hm, hf⟩)
    (fun _ _ h => h.queuesHold) (fun _ _ h => h.queuesHold) fun _ h => h.settle

theorem step_lockLaw {s t : State} (h : step s = .next t) (hs : s.LockLaw) : t.LockLaw :=
  step_keeps (P := State.LockLaw) h (fun _ => hs) (fun _ _ h => h.lockLaw) (fun _ _ h => h.lockLaw) fun _ h => h.settle

theorem step_quenchLaw {s t : State} (h : step s = .next t) (hs : s.QuenchLaw) : t.QuenchLaw :=
  step_keeps (P := State.QuenchLaw) h (fun _ => hs) (fun _ _ h => h.quenchLaw) (fun _ _ h => h.quenchLaw) fun _ h => h.settle

theorem step_recordLaw {s t : State} (h : step s = .next t) (hs : s.RecordLaw) : t.RecordLaw :=
  step_keeps (P := State.RecordLaw) h (fun _ => hs) (fun _ _ h => h.recordLaw) (fun _ _ h => h.recordLaw) fun s h =>
    s.marks_settleLevels.recordLaw h

theorem step_timebaseLaw {s t : State} (h : step s = .next t) (hs : s.TimebaseLaw) : t.TimebaseLaw :=
  step_keeps (P := State.TimebaseLaw) h (fun _ => hs) (fun _ _ h => h.timebaseLaw) (fun _ _ h => h.timebaseLaw) fun s h =>
    s.marks_settleLevels.timebaseLaw h

theorem step_inputLaw {s t : State} (h : step s = .next t) (hs : s.InputLaw) : t.InputLaw :=
  step_keeps (P := State.InputLaw) h (fun _ => hs) (fun _ _ h => h.inputLaw) (fun _ _ h => h.inputLaw) fun s h =>
    s.marks_settleLevels.inputLaw h

theorem step_dueLaw {s t : State} (h : step s = .next t) (hs : s.TimebaseLaw) (hd : s.DueLaw) : t.DueLaw := by
  have hd' : ∀ cs, ({ s with pending := cs } : State).DueLaw := fun cs d hm =>
    State.mayBeDue_of_slots (s := s) (t := { s with pending := cs }) rfl (fun _ => rfl) (fun _ => rfl) (fun _ => ⟨rfl, rfl⟩) (hd d hm)
  exact (step_keeps (P := fun s => s.TimebaseLaw ∧ s.DueLaw) h (fun cs => ⟨hs, hd' cs⟩)
    (fun _ _ h hs => ⟨h.timebaseLaw hs.1, h.dueLaw hs.1 hs.2⟩) (fun _ _ h hs => ⟨h.timebaseLaw hs.1, h.dueLaw hs.2⟩) fun s hs =>
    ⟨s.marks_settleLevels.timebaseLaw hs.1, s.marks_settleLevels.dueLaw hs.2⟩).2

/-- No two member lines of one group are asserted together (R91). -/
theorem State.ExclusionLaw.one_asserted {s : State} (h : s.ExclusionLaw) {g : GroupId} {l l' : LineId}
    (hl : (s.group g).has l = true) (hl' : (s.group g).has l' = true) (ha : (s.line l).asserted = true)
    (ha' : (s.line l').asserted = true) : l = l' := by
  obtain ⟨hlevel, hgroups, -⟩ := State.exclusionLaw_iff.mp h
  have held : ∀ {x : LineId}, (s.group g).has x = true → (s.line x).asserted = true → (s.group g).state = .held x := fun hx hax =>
    (hgroups.bounded g).1 _ hx (of_decide_eq_true ((hlevel _).symm.trans hax))
  have := (held hl ha).symm.trans (held hl' ha')
  cases this
  rfl

end Sys2Proof.Machine

open Sys2Proof Sys2Proof.Machine

set_option Elab.async false

/-- Settles O52: every act keeps the claim counts, and every chain of acts ends with its levels settled. -/
theorem lineLawIsKept : Obligations.LineLawIsKept := fun _ _ hc hl h => ⟨step_claimLaw h hc, step_levelLaw h hl⟩

/-- Settles O53: every act keeps the claims of each group bounded by its holder line, and every release is taken. -/
theorem exclusionIsKept : Obligations.ExclusionIsKept := by
  intro s t hs h
  obtain ⟨hl, hg, hh⟩ := State.exclusionLaw_iff.mp hs
  have ht : t.ExclusionLaw := State.exclusionLaw_iff.mpr ⟨step_levelLaw h hl, step_groupsHold h hg, step_holdersClaim h hh⟩
  exact ⟨ht, fun _ _ _ => ht.one_asserted⟩

/-- Settles O54: every act keeps the places in the queues those of the BLOCKED permits. -/
theorem queuesAreKept : Obligations.QueuesAreKept := by
  intro s t hs hb hq h
  obtain ⟨-, hg, -⟩ := State.exclusionLaw_iff.mp hs
  obtain ⟨hm, hf⟩ := State.queueLaw_iff.mp hq
  have ht := step_queuesHold h ⟨hg, hb, hm, hf⟩
  exact ⟨ht.blocked, State.queueLaw_iff.mpr ⟨ht.match_, ht.free⟩⟩

/-- Settles O55: an ARM checks locks and quench, and a lock and an onset end every permit that they concern. -/
theorem lockAndQuenchLawsAreKept : Obligations.LockAndQuenchLawsAreKept := fun _ _ h => ⟨step_lockLaw h, step_quenchLaw h⟩

/-- Settles O59: an act writes timebases and inputs in their ranges and delivers to users alone. -/
theorem timeLawsAreKept : Obligations.TimeLawsAreKept := fun _ _ h =>
  ⟨fun ht hi => ⟨step_timebaseLaw h ht, step_inputLaw h hi⟩, step_dueLaw h⟩

/-- Settles O60: every act writes records in their ranges. -/
theorem recordsStayInRange : Obligations.RecordsStayInRange := fun _ _ hs h => step_recordLaw h hs

end

section
/-! SUPPORT. The laws of sessions, references and attention lists through every act (R4, R6, R7, R136, R148). -/

namespace Sys2Proof.Machine

set_option Elab.async false

/-! ### Acts that leave owners and references -/

/-- What a permit shows of its owner and its references. -/
def Permit.ties (q : Permit) : Option Owner × Trigger × Option Handle := (q.owner, q.trigger, q.gate)

/-- The same owners, references, sessions and owned counts. -/
structure State.SameBooks (s t : State) : Prop where
  permit : ∀ i, (t.permit i).map Permit.ties = (s.permit i).map Permit.ties
  handle : ∀ i, t.handle i = s.handle i
  port : ∀ p, (t.port p).isOpen = (s.port p).isOpen ∧ (t.port p).session = (s.port p).session ∧ (t.port p).owned = (s.port p).owned

theorem State.SameBooks.of_slots {s t : State} (hs : t.slots = s.slots) (hp : ∀ p, (t.port p).isOpen = (s.port p).isOpen ∧
    (t.port p).session = (s.port p).session ∧ (t.port p).owned = (s.port p).owned) : s.SameBooks t :=
  ⟨fun i => by rw [State.permit_of_slots hs], State.handle_of_slots hs, hp⟩

theorem State.SameBooks.setPermit {s : State} {i : SlotId} {p p' : Permit} (here : s.permit i = some p) (h : p'.ties = p.ties) :
    s.SameBooks (s.setPermit i p') := by
  refine ⟨fun j => ?_, fun j => State.handle_setPermit s i j p', fun _ => ⟨rfl, rfl, rfl⟩⟩
  rw [State.permit_setPermit]
  split
  · next hj => subst hj; rw [here, Option.map_some, Option.map_some, h]
  · rfl

theorem State.SameBooks.of_marks {s t : State} (h : s.Marks t) : s.SameBooks t :=
  .of_slots h.slots fun p => ⟨(h.opened p).1, (h.opened p).2, (h.owned p).1⟩

section
variable {s t : State} (h : s.SameBooks t)
include h

theorem State.SameBooks.ownerAt (i : SlotId) : t.ownerAt i = s.ownerAt i := by
  have hi := h.permit i
  unfold State.ownerAt
  cases ht : t.permit i <;> cases hs : s.permit i <;> simp_all [Permit.ties]

theorem State.SameBooks.ownerLaw (hs : s.OwnerLaw) : t.OwnerLaw :=
  hs.of_owners h.ownerAt fun p => ⟨(h.port p).1, (h.port p).2.1⟩

theorem State.SameBooks.countLaw (hs : s.CountLaw) : t.CountLaw :=
  hs.of_owners h.ownerAt fun p => ⟨(h.port p).2.2, (h.port p).2.1⟩

theorem State.SameBooks.resolve (x : Handle) : (t.resolve x).map Permit.ties = (s.resolve x).map Permit.ties := by
  have hg : (t.slot x.slot).gen = (s.slot x.slot).gen := congrArg Handle.gen (h.handle x.slot)
  unfold State.resolve
  rw [hg]
  split
  · exact h.permit x.slot
  · rfl

theorem State.SameBooks.referenceLaw (hs : s.ReferenceLaw) : t.ReferenceLaw := by
  refine hs.of_owners (fun x => ?_) fun j q' hq' => ?_
  · have hx := h.resolve x
    cases ht : t.resolve x <;> cases hs : s.resolve x <;> simp_all [Permit.ties]
  · have hj := h.permit j
    rw [hq', Option.map_some] at hj
    obtain ⟨q, hq, heq⟩ := Option.map_eq_some_iff.mp hj.symm
    simp only [Permit.ties, Prod.mk.injEq] at heq
    exact ⟨q, hq, heq.1.symm, heq.2.1.symm, heq.2.2.symm⟩

end

theorem State.port_acknowledge (s : State) (p : Port) (i : SlotId) (q : Permit) (kinds : NoticeSet) (x : Port) :
    (s.acknowledge p i q kinds).port x = { s.port x with
      attention := (s.port x).attention.filter fun e =>
        !((q.pending.minus kinds).isEmpty && decide (x = p)) || decide (e ≠ .permit (s.handle i)) } := by
  unfold State.acknowledge
  dsimp only
  split
  · next he =>
    rw [State.removeEntry, State.port_setPort]
    split
    · next hx => subst hx; simp [he]
    · next hx => simp [Ne.symm hx]
  · next he => simp [he]

theorem State.Quiet.books {s t : State} (h : State.Quiet s t) : s.SameBooks t ∨ t = State.resetAs s.pending s.freeCount ∨
    (∃ p i q f, (s.port p).isOpen = true ∧ s.permit i = none ∧ (s.port p).owned < (s.port p).quota ∧
      createRecord { port := p, session := (s.port p).session } f = some q ∧ s.referenceFailure p q.trigger.pred = none ∧
      s.referenceFailure p q.gate = none ∧ t = s.place p i q) ∨
    (∃ p i q, s.permit i = some q ∧ s.ownedBy p q = true ∧ s.referenced p i = false ∧ t = s.retire i) ∨
    ∃ p n, (s.port p).isOpen = false ∧ t = s.opened p n := by
  cases h with
  | aside h => exact .inl (.of_slots h.slots fun p => ⟨(h.port p).1, (h.port p).2.1, (h.port p).2.2.1⟩)
  | arms here => exact .inl (.setPermit here rfl)
  | amends here => exact .inl (.setPermit here rfl)
  | @acks p i q here _ kinds =>
    have hset := State.SameBooks.setPermit (p' := { q with pending := q.pending.minus kinds }) here rfl
    refine .inl ⟨fun j => ?_, fun j => ?_, fun x => by rw [State.port_acknowledge]; exact ⟨rfl, rfl, rfl⟩⟩
    · rw [State.permit_of_slots (s.slots_acknowledge ..), hset.permit]
    · rw [State.handle_of_slots (s.slots_acknowledge ..), hset.handle]
  | @drops test =>
    refine .inl (.of_slots rfl fun p => ?_)
    rw [State.dropEntries, State.port_setPort]
    split
    · next h => subst h; exact ⟨rfl, rfl, rfl⟩
    · exact ⟨rfl, rfl, rfl⟩
  | @places p i q f isOpen empty quota record pred gate => exact .inr (.inr (.inl ⟨p, i, q, f, isOpen, empty, quota, record, pred, gate, rfl⟩))
  | @retires p i q here owned _ free => exact .inr (.inr (.inr (.inl ⟨p, i, q, here, owned, free, rfl⟩)))
  | @opens p closed n => exact .inr (.inr (.inr (.inr ⟨p, n, closed, rfl⟩)))
  | @quota p n =>
    refine .inl (.of_slots rfl fun x => ?_)
    rw [State.port_setPort]
    split
    · next h => subst h; exact ⟨rfl, rfl, rfl⟩
    · exact ⟨rfl, rfl, rfl⟩
  | groups => exact .inl (.of_slots rfl fun _ => ⟨rfl, rfl, rfl⟩)
  | resets => exact .inr (.inl rfl)
  | released => exact .inl (.of_slots rfl fun _ => ⟨rfl, rfl, rfl⟩)

/-! ### CREATE (R15) -/

section
variable {s : State} {p : Port} {i : SlotId} {q : Permit} {f : CreateFields}

theorem State.port_place (x : Port) : (s.place p i q).port x =
    if p = x then { s.port p with owned := (s.port p).owned + 1 } else s.port x := State.port_setPort ..

theorem State.session_place (x : Port) : ((s.place p i q).port x).isOpen = (s.port x).isOpen ∧
    ((s.place p i q).port x).session = (s.port x).session ∧ ((s.place p i q).port x).attention = (s.port x).attention ∧
    ((s.place p i q).port x).quota = (s.port x).quota := by
  rw [State.port_place]
  split
  · next h => subst h; exact ⟨rfl, rfl, rfl, rfl⟩
  · exact ⟨rfl, rfl, rfl, rfl⟩

theorem State.resolve_place (x : Handle) : (s.place p i q).resolve x = if x = s.handle i then some q else s.resolve x :=
  State.resolve_setPermit s i q x

theorem State.ownerAt_place (j : SlotId) : (s.place p i q).ownerAt j = if i = j then q.owner else s.ownerAt j := by
  unfold State.ownerAt
  rw [State.permit_place]
  split
  · rfl
  · rfl

theorem State.OwnerLaw.place (h : s.OwnerLaw) (isOpen : (s.port p).isOpen = true)
    (record : q.owner = some { port := p, session := (s.port p).session }) : (s.place p i q).OwnerLaw := by
  rw [State.ownerLaw_iff] at h ⊢
  intro j o ho
  obtain ⟨h1, h2, -⟩ := s.session_place (p := p) (i := i) (q := q) o.port
  rw [h1, h2]
  rw [State.ownerAt_place] at ho
  split at ho
  · rw [record] at ho; cases ho; exact ⟨isOpen, rfl⟩
  · exact h j o ho

theorem State.CountLaw.place (h : s.CountLaw) (empty : s.permit i = none)
    (record : q.owner = some { port := p, session := (s.port p).session }) : (s.place p i q).CountLaw := by
  intro x
  have hx := h x
  obtain ⟨-, h2, -⟩ := s.session_place (p := p) (i := i) (q := q) x
  rw [State.slotsWith_ownedBy] at hx ⊢
  have hnone : s.ownerAt i = none := by rw [State.ownerAt, empty]; rfl
  have hchange := length_filter_change (i := i)
    (f := fun j => decide (s.ownerAt j = some { port := x, session := (s.port x).session }))
    (g := fun j => decide ((s.place p i q).ownerAt j = some { port := x, session := (s.port x).session }))
    fun j hj => by rw [State.ownerAt_place, if_neg (Ne.symm hj)]
  rw [State.ownerAt_place, if_pos rfl, hnone, record] at hchange
  rw [h2, State.port_place]
  split
  · next hp =>
    subst hp
    show (s.port p).owned + 1 = _
    simp at hchange
    omega
  · next hp => simp [hp] at hchange; omega

theorem State.referenceFailure_eq_none {h : Handle} (hr : s.referenceFailure p (some h) = none) :
    (s.resolve h).map Permit.owner = some (some { port := p, session := (s.port p).session }) := by
  unfold State.referenceFailure at hr
  dsimp only at hr
  split at hr
  · cases hr
  · next r hres =>
    split at hr
    · next ho => rw [hres, Option.map_some, State.owner_of_ownedBy ho]
    · cases hr

theorem State.ReferenceLaw.place (h : s.ReferenceLaw) (empty : s.permit i = none)
    (record : createRecord { port := p, session := (s.port p).session } f = some q)
    (pred : s.referenceFailure p q.trigger.pred = none) (gate : s.referenceFailure p q.gate = none) :
    (s.place p i q).ReferenceLaw := by
  obtain ⟨howner, -, -, hchain⟩ := createRecord_fresh record
  have keeps : ∀ {x : Handle} {o : Option Owner}, (s.resolve x).map Permit.owner = some o →
      ((s.place p i q).resolve x).map Permit.owner = some o := by
    intro x o hx
    rw [State.resolve_place, if_neg]
    · exact hx
    · rintro rfl
      rw [State.resolve_handle, empty] at hx
      cases hx
  intro j q' hq'
  have hq' : (s.place p i q).permit j = some q' := hq'
  rw [State.permit_place] at hq'
  split at hq'
  · cases hq'
    refine ⟨fun x hx => ?_, fun _ => hchain⟩
    rw [howner]
    refine keeps (State.referenceFailure_eq_none ?_)
    obtain ht | hg := Permit.mem_references.mp hx
    · rwa [ht] at pred
    · rwa [hg] at gate
  · obtain ⟨h1, h2⟩ := h j q' hq'
    exact ⟨fun x hx => keeps (h1 x hx), h2⟩

theorem State.ListLaw.place (h : s.ListLaw) (empty : s.permit i = none)
    (record : createRecord { port := p, session := (s.port p).session } f = some q) : (s.place p i q).ListLaw := by
  obtain ⟨howner, -, hpending, -⟩ := createRecord_fresh record
  refine h.of_lists (fun x hd => ?_) (fun x => (s.session_place x).2.2.1) fun j q' hq' hown => ?_
  · rw [Bool.eq_iff_iff, State.awaits_iff, State.awaits_iff, State.resolve_place, (s.session_place x).2.1]
    split
    · next heq =>
      subst heq
      rw [State.resolve_handle, empty]
      constructor
      · rintro ⟨r, hr, -, hne⟩
        cases hr
        exact absurd hpending hne
      · rintro ⟨r, hr, -⟩
        cases hr
    · rfl
  · rw [State.permit_place] at hq'
    split at hq'
    · cases hq'; rw [howner] at hown; cases hown
    · exact ⟨q', hq', hown, rfl⟩

end

/-! ### RETIRE (R19, R20) -/

section
variable {s : State} {p : Port} {i : SlotId} {q : Permit} (here : s.permit i = some q) (owned : s.ownedBy p q = true)
include here

theorem State.ownerAt_retire (j : SlotId) : (s.retire i).ownerAt j = if i = j then none else s.ownerAt j := by
  unfold State.ownerAt
  rw [State.permit_retire_any here]
  split
  · rfl
  · exact Option.bind_map_owner _ fun q => Permit.owner_dropReference q _

theorem State.session_retire (x : Port) : ((s.retire i).port x).isOpen = (s.port x).isOpen ∧
    ((s.retire i).port x).session = (s.port x).session := by
  rw [State.port_retire here]
  split
  · exact ⟨rfl, rfl⟩
  · exact ⟨rfl, rfl⟩

theorem State.OwnerLaw.retire (h : s.OwnerLaw) : (s.retire i).OwnerLaw := by
  rw [State.ownerLaw_iff] at h ⊢
  intro j o ho
  obtain ⟨h1, h2⟩ := State.session_retire here o.port
  rw [h1, h2]
  rw [State.ownerAt_retire here] at ho
  split at ho
  · cases ho
  · exact h j o ho

include owned

theorem State.port_retire_owned (x : Port) : (s.retire i).port x = if x = p then
    { s.port p with attention := (s.port p).attention.filter (· ≠ .permit (s.handle i)), owned := (s.port p).owned - 1 }
    else s.port x := by
  rw [State.port_retire here, State.owner_of_ownedBy owned]
  by_cases hx : x = p
  · subst hx; simp
  · rw [if_neg hx, if_neg]
    simpa using Ne.symm hx

theorem State.CountLaw.retire (h : s.CountLaw) : (s.retire i).CountLaw := by
  intro x
  have hx := h x
  obtain ⟨-, h2⟩ := State.session_retire here x
  rw [State.slotsWith_ownedBy] at hx ⊢
  have hat : s.ownerAt i = some { port := p, session := (s.port p).session } :=
    (State.ownerAt_of_permit here).trans (State.owner_of_ownedBy owned)
  have hchange := length_filter_change (i := i)
    (f := fun j => decide (s.ownerAt j = some { port := x, session := (s.port x).session }))
    (g := fun j => decide ((s.retire i).ownerAt j = some { port := x, session := (s.port x).session }))
    fun j hj => by rw [State.ownerAt_retire here, if_neg (Ne.symm hj)]
  rw [State.ownerAt_retire here, if_pos rfl, hat] at hchange
  rw [h2, State.port_retire_owned here owned]
  split
  · next hp =>
    subst hp
    show (s.port x).owned - 1 = _
    simp at hchange
    omega
  · next hp => simp [Ne.symm hp] at hchange; omega

theorem State.ReferenceLaw.retire_owned (h : s.ReferenceLaw) (free : s.referenced p i = false) : (s.retire i).ReferenceLaw := by
  have hfree := s.not_referenced_eq p i
  rw [free] at hfree
  have hfree := of_decide_eq_true hfree.symm
  refine h.retire here fun j r hj hr hown _ hmem => ?_
  rw [State.owner_of_ownedBy owned] at hown
  obtain ⟨h1, h2⟩ := hfree j hj r hr (decide_eq_true hown)
  obtain ht | hg := Permit.mem_references.mp hmem
  · exact h1 ht
  · exact h2 hg

theorem State.ListLaw.retire (h : s.ListLaw) : (s.retire i).ListLaw := by
  have howner := State.owner_of_ownedBy owned
  refine h.of_filter (keep := fun x e => decide (x ≠ p) || decide (e ≠ .permit (s.handle i))) (fun x => ?_) (fun x hd => ?_)
    fun j q' hq' hown => ?_
  · rw [State.port_retire_owned here owned]
    split
    · next hx => subst hx; simp
    · next hx => simp [hx]
  · rw [Bool.eq_iff_iff, Bool.and_eq_true, State.awaits_iff, State.awaits_iff, (State.session_retire here x).2,
      State.resolve_retire here]
    constructor
    · rintro ⟨r, hr, ho, hne⟩
      split at hr
      · cases hr
      next hslot =>
      obtain ⟨r0, hr0, rfl⟩ := Option.map_eq_some_iff.mp hr
      rw [Permit.owner_dropReference] at ho
      rw [Permit.pending_dropReference] at hne
      refine ⟨⟨r0, hr0, ho, hne⟩, ?_⟩
      have hd' : hd ≠ s.handle i := by rintro rfl; exact hslot rfl
      simp [hd']
    · rintro ⟨⟨r, hr, ho, hne⟩, hkeep⟩
      have hslot : i ≠ hd.slot := by
        rintro rfl
        obtain ⟨hh, hp⟩ := State.resolve_eq_some.mp hr
        rw [hp] at here
        cases here
        rw [howner] at ho
        cases ho
        rw [← hh] at hkeep
        simp at hkeep
      rw [if_neg hslot, hr]
      exact ⟨_, rfl, (Permit.owner_dropReference r _).trans ho, by rwa [Permit.pending_dropReference]⟩
  · rw [State.permit_retire_any here] at hq'
    split at hq'
    · cases hq'
    · obtain ⟨r, hr, rfl⟩ := Option.map_eq_some_iff.mp hq'
      rw [Permit.pending_dropReference]
      exact h.2 j r hr (by rwa [Permit.owner_dropReference] at hown)

end

/-! ### OPEN (R146) -/

section
variable {s : State} {p : Port} {n : Byte} (closed : (s.port p).isOpen = false) (ho : s.OwnerLaw)

theorem State.port_opened (x : Port) : (s.opened p n).port x =
    if p = x then { s.port p with isOpen := true, session := n, owned := 0, attention := [] } else s.port x := State.port_setPort ..

include closed ho

/-- No permit has an owner on a CLOSED port. -/
theorem State.owner_closed {i : SlotId} {o : Owner} (h : s.ownerAt i = some o) : p ≠ o.port := by
  rintro rfl
  rw [(State.ownerLaw_iff.mp ho i o h).1] at closed
  cases closed

theorem State.OwnerLaw.opened : (s.opened p n).OwnerLaw := by
  rw [State.ownerLaw_iff]
  intro i o h
  have h : s.ownerAt i = some o := h
  rw [State.port_opened, if_neg (State.owner_closed closed ho h)]
  exact State.ownerLaw_iff.mp ho i o h

theorem State.CountLaw.opened (h : s.CountLaw) : (s.opened p n).CountLaw := by
  intro x
  have hx := h x
  rw [State.slotsWith_ownedBy] at hx ⊢
  rw [State.port_opened]
  split
  · next hp =>
    subst hp
    symm
    rw [List.length_eq_zero_iff, List.filter_eq_nil_iff]
    intro i _ hi
    exact State.owner_closed closed ho (of_decide_eq_true hi) rfl
  · exact hx

theorem State.ListLaw.opened (h : s.ListLaw) : (s.opened p n).ListLaw := by
  refine h.of_filter (keep := fun x _ => decide (x ≠ p)) (fun x => ?_) (fun x hd => ?_) h.2
  · rw [State.port_opened]
    split
    · next hx => simp [hx]
    · next hx => simp [Ne.symm hx]
  · have hres : (s.opened p n).resolve hd = s.resolve hd := rfl
    rw [Bool.eq_iff_iff, Bool.and_eq_true, State.awaits_iff, State.awaits_iff, hres, State.port_opened, decide_eq_true_eq]
    split
    · next hx =>
      subst hx
      constructor
      · rintro ⟨r, hr, hown, -⟩
        exact absurd rfl (State.owner_closed closed ho ((State.ownerAt_of_permit (State.permit_of_resolve hr)).trans hown))
      · rintro ⟨-, hne⟩
        exact absurd rfl hne
    · next hx => exact ⟨fun h => ⟨h, Ne.symm hx⟩, fun h => h.1⟩

end

/-! ### The laws through quiet acts -/

theorem State.Quiet.owners {s t : State} (h : State.Quiet s t) (ho : s.OwnerLaw) :
    t.OwnerLaw ∧ (s.CountLaw → t.CountLaw) := by
  obtain hb | rfl | ⟨p, i, q, f, isOpen, empty, -, record, -, -, rfl⟩ | ⟨p, i, q, here, owned, -, rfl⟩ | ⟨p, n, closed, rfl⟩ := h.books
  · exact ⟨hb.ownerLaw ho, hb.countLaw⟩
  · exact ⟨State.ownerLaw_resetAs _ _, fun _ => State.countLaw_resetAs _ _⟩
  · exact ⟨ho.place isOpen (createRecord_fresh record).1, fun hc => hc.place empty (createRecord_fresh record).1⟩
  · exact ⟨State.OwnerLaw.retire here ho, State.CountLaw.retire here owned⟩
  · exact ⟨State.OwnerLaw.opened closed ho, State.CountLaw.opened closed ho⟩

theorem State.Quiet.referenceLaw {s t : State} (h : State.Quiet s t) (hs : s.ReferenceLaw) : t.ReferenceLaw := by
  obtain hb | rfl | ⟨p, i, q, f, -, empty, -, record, pred, gate, rfl⟩ | ⟨p, i, q, here, owned, free, rfl⟩ | ⟨p, n, -, rfl⟩ := h.books
  · exact hb.referenceLaw hs
  · exact State.referenceLaw_resetAs _ _
  · exact hs.place empty record pred gate
  · exact State.ReferenceLaw.retire_owned here owned hs free
  · exact hs

/-- A permit out of service, or written in the state that it has, is no orphan that stops. -/
theorem State.Quiet.orphanLaw {s t : State} (h : State.Quiet s t) (hs : s.OrphanLaw) : t.OrphanLaw := by
  have of_slots : t.slots = s.slots → t.OrphanLaw := fun he i q hq =>
    hs i q ((State.permit_of_slots he i).symm.trans hq)
  cases h with
  | aside h => exact of_slots h.slots
  | @arms i q here owned =>
    intro j q' hq' ho
    have hq' : (s.setPermit i q.rearmed).permit j = some q' := hq'
    rw [State.permit_setPermit] at hq'
    split at hq'
    · cases hq'; exact absurd ho owned
    · exact hs j q' hq' ho
  | amends here => exact hs.setPermit here rfl fun h => h
  | @acks p i q here _ kinds =>
    have hset : (s.setPermit i { q with pending := q.pending.minus kinds }).OrphanLaw := hs.setPermit here rfl fun h => h
    exact fun j q' hq' => hset j q' ((State.permit_of_slots (s.slots_acknowledge ..) j).symm.trans hq')
  | drops => exact of_slots rfl
  | @places p i q f _ _ _ record =>
    intro j q' hq' ho
    have hq' : (s.place p i q).permit j = some q' := hq'
    rw [State.permit_place] at hq'
    split at hq'
    · cases hq'; rw [(createRecord_fresh record).1] at ho; cases ho
    · exact hs j q' hq' ho
  | @retires p i q here =>
    intro j q' hq' ho
    have hq' : (s.retire i).permit j = some q' := hq'
    rw [State.permit_retire_any here] at hq'
    split at hq'
    · cases hq'
    · obtain ⟨r, hr, rfl⟩ := Option.map_eq_some_iff.mp hq'
      rw [Permit.state_dropReference]
      exact hs j r hr (by rwa [Permit.owner_dropReference] at ho)
  | opens => exact of_slots rfl
  | quota => exact of_slots rfl
  | groups => exact of_slots rfl
  | resets => exact State.orphanLaw_resetAs _ _
  | released => exact of_slots rfl

/-- What does not move a permit and leaves the lists and the sessions keeps the lists' law. -/
theorem State.ListLaw.of_slots {s t : State} (h : s.ListLaw) (hs : t.slots = s.slots)
    (hp : ∀ p, (t.port p).session = (s.port p).session ∧ (t.port p).attention = (s.port p).attention) : t.ListLaw :=
  h.of_lists (State.awaits_of_shown (fun x => by rw [State.resolve_of_slots hs]) fun p => (hp p).1) (fun p => (hp p).2)
    fun j q' hq' ho => ⟨q', (State.permit_of_slots hs j).symm.trans hq', ho, rfl⟩

/-- A permit written with the owner and the pending set that it has. -/
theorem State.ListLaw.setPermit {s : State} {i : SlotId} {p p' : Permit} (h : s.ListLaw) (here : s.permit i = some p)
    (ho : p'.owner = p.owner) (hp : p'.pending = p.pending) : (s.setPermit i p').ListLaw := by
  refine h.of_lists (State.awaits_of_shown (fun x => ?_) fun _ => rfl) (fun _ => rfl) fun j q' hq' hown => ?_
  · rw [State.resolve_setPermit]
    split
    · next hx => subst hx; rw [State.resolve_handle, here, Option.map_some, Option.map_some, ho, hp]
    · rfl
  · rw [State.permit_setPermit] at hq'
    split at hq'
    · next hj => subst hj; cases hq'; exact ⟨p, here, ho.symm.trans hown, hp⟩
    · exact ⟨q', hq', hown, rfl⟩

theorem NoticeSet.minus_empty (m : NoticeSet) : NoticeSet.minus {} m = {} := by simp [NoticeSet.minus]

theorem State.ListLaw.acknowledge {s : State} {p : Port} {i : SlotId} {q : Permit} (h : s.ListLaw) (here : s.permit i = some q)
    (owned : s.ownedBy p q = true) (kinds : NoticeSet) : (s.acknowledge p i q kinds).ListLaw := by
  have howner := State.owner_of_ownedBy owned
  have hres : ∀ x, (s.acknowledge p i q kinds).resolve x =
      if x = s.handle i then some { q with pending := q.pending.minus kinds } else s.resolve x := fun x =>
    (State.resolve_of_slots (s.slots_acknowledge ..) x).trans (State.resolve_setPermit s i _ x)
  have hper : ∀ j, (s.acknowledge p i q kinds).permit j =
      if i = j then some { q with pending := q.pending.minus kinds } else s.permit j := fun j =>
    (State.permit_of_slots (s.slots_acknowledge ..) j).trans (State.permit_setPermit s i j _)
  refine h.of_filter (keep := fun x e => !((q.pending.minus kinds).isEmpty && decide (x = p)) || decide (e ≠ .permit (s.handle i)))
    (fun x => by rw [State.port_acknowledge]) (fun x hd => ?_) fun j q' hq' hown => ?_
  · rw [Bool.eq_iff_iff, Bool.and_eq_true, State.awaits_iff, State.awaits_iff, hres, State.port_acknowledge]
    split
    · next heq =>
      subst heq
      rw [State.resolve_handle, here]
      simp only [Option.some.injEq, exists_eq_left', howner, Owner.mk.injEq]
      constructor
      · rintro ⟨ho, hne⟩
        obtain ⟨rfl, -⟩ := ho
        refine ⟨⟨⟨rfl, rfl⟩, fun hz => hne (by rw [hz, NoticeSet.minus_empty])⟩, ?_⟩
        simpa [NoticeSet.isEmpty, NoticeSet.empty] using hne
      · rintro ⟨⟨ho, -⟩, hkeep⟩
        obtain ⟨rfl, -⟩ := ho
        refine ⟨⟨rfl, rfl⟩, ?_⟩
        simpa [NoticeSet.isEmpty, NoticeSet.empty] using hkeep
    · next hne => simp [hne]
  · rw [hper] at hq'
    split at hq'
    · cases hq'
      rw [show q.owner = none from hown] at howner
      cases howner
    · exact h.2 j q' hq' hown

theorem State.ListLaw.dropEntries {s : State} {test : Entry → Bool} (h : s.ListLaw) (permits : ∀ x, test (.permit x) = false) :
    (s.dropEntries test).ListLaw := by
  have hport : ∀ x, (s.dropEntries test).port x = { s.port x with
      attention := (s.port x).attention.filter fun e => decide (x ≠ 0) || !test e } := by
    intro x
    rw [State.dropEntries, State.port_setPort]
    split
    · next hx => subst hx; simp
    · next hx => simp [Ne.symm hx]
  refine h.of_filter (keep := fun x e => decide (x ≠ 0) || !test e) (fun x => by rw [hport]) (fun x hd => ?_) h.2
  rw [permits, Bool.not_false, Bool.or_true, Bool.and_true]
  exact State.awaits_of_shown (s := s) (t := s.dropEntries test) (fun _ => rfl) (fun y => by rw [hport]) x hd

theorem State.Quiet.listLaw {s t : State} (h : State.Quiet s t) (ho : s.OwnerLaw) (hs : s.ListLaw) : t.ListLaw := by
  cases h with
  | aside h => exact hs.of_slots h.slots fun p => ⟨(h.port p).2.1, (h.port p).2.2.2.2⟩
  | arms here => exact hs.setPermit here rfl rfl
  | amends here => exact hs.setPermit here rfl rfl
  | acks here owned kinds => exact hs.acknowledge here owned kinds
  | drops permits => exact hs.dropEntries permits
  | places _ empty _ record => exact hs.place empty record
  | retires here owned => exact State.ListLaw.retire here owned hs
  | opens closed n => exact State.ListLaw.opened closed ho hs
  | @quota p n =>
    refine hs.of_slots rfl fun x => ?_
    rw [State.port_setPort]
    split
    · next h => subst h; exact ⟨rfl, rfl⟩
    · exact ⟨rfl, rfl⟩
  | groups => exact hs.of_slots rfl fun _ => ⟨rfl, rfl⟩
  | resets => exact State.listLaw_resetAs _ _
  | released => exact hs.of_slots rfl fun _ => ⟨rfl, rfl⟩

theorem State.quotaSum_eq {s : State} (p : Port) (n : Nat) : s.quotaSum p n =
    (if p = 0 then n else (s.port 0).quota) + (if p = 1 then n else (s.port 1).quota) + (if p = 2 then n else (s.port 2).quota) := by
  have h3 : ∀ p : Port, p = 0 ∨ p = 1 ∨ p = 2 := by decide
  obtain rfl | rfl | rfl := h3 p
  · simp [State.quotaSum]
  · simp [State.quotaSum]; omega
  · simp [State.quotaSum]; omega

theorem State.Quiet.quotaLaw {s t : State} (h : State.Quiet s t) (hs : s.QuotaLaw) : t.QuotaLaw := by
  have of_ports : (∀ p, (t.port p).owned ≤ (s.port p).owned) → (∀ p, (t.port p).quota = (s.port p).quota) → t.QuotaLaw := hs.of_owned
  cases h with
  | aside h => exact of_ports (fun p => Nat.le_of_eq (h.port p).2.2.1) fun p => (h.port p).2.2.2.1
  | arms => exact hs
  | amends => exact hs
  | acks =>
    exact of_ports (fun p => by rw [State.port_acknowledge]) fun p => by rw [State.port_acknowledge]
  | @drops test =>
    have hport : ∀ p, ((s.dropEntries test).port p).owned = (s.port p).owned ∧ ((s.dropEntries test).port p).quota = (s.port p).quota := by
      intro p
      rw [State.dropEntries, State.port_setPort]
      split
      · next h => subst h; exact ⟨rfl, rfl⟩
      · exact ⟨rfl, rfl⟩
    exact of_ports (fun p => Nat.le_of_eq (hport p).1) fun p => (hport p).2
  | @places p i q f _ _ quota =>
    refine ⟨fun x => ?_, ?_⟩
    · rw [State.port_place]
      split
      · exact quota
      · exact hs.1 x
    · simp only [(s.session_place _).2.2.2]
      exact hs.2
  | @retires p i q here owned =>
    have hport := State.port_retire_owned here owned
    refine of_ports (fun x => ?_) fun x => ?_
    · rw [hport]
      split
      · next hx => subst hx; exact Nat.sub_le ..
      · exact Nat.le_refl _
    · rw [hport]
      split
      · next hx => subst hx; rfl
      · rfl
  | @opens p closed n =>
    have hport := State.port_opened (s := s) (p := p) (n := n)
    refine of_ports (fun x => ?_) fun x => ?_
    · rw [hport]
      split
      · exact Nat.zero_le _
      · exact Nat.le_refl _
    · rw [hport]
      split
      · next hx => subst hx; rfl
      · rfl
  | @quota p n owned sum =>
    have hport : ∀ x, ((s.setPort p { s.port p with quota := n }).port x).quota = if p = x then n else (s.port x).quota := by
      intro x
      rw [State.port_setPort]
      split
      · rfl
      · rfl
    refine ⟨fun x => ?_, ?_⟩
    · rw [State.port_setPort]
      split
      · exact owned
      · exact hs.1 x
    · rw [hport, hport, hport, ← State.quotaSum_eq]
      exact sum
  | groups => exact hs
  | resets => exact State.quotaLaw_resetAs _ _
  | released => exact hs

end Sys2Proof.Machine
end

section
/-! SUPPORT. The laws of sessions, references and attention lists through loud acts, and through every step. -/

namespace Sys2Proof.Machine

set_option Elab.async false

/-! ### Entries of lines and of quench (R109, R137) -/

theorem State.ListLaw.of_entries {s t : State} (h : s.ListLaw) (hm : s.Marks t)
    (hperm : ∀ p x, (t.port p).attention.count (.permit x) = (s.port p).attention.count (.permit x))
    (hline : ∀ p l, ((t.port p).attention.filter (Entry.isLine l)).length ≤ max (if p = 0 then 1 else 0)
      ((s.port p).attention.filter (Entry.isLine l)).length)
    (hquench : ∀ p, ((t.port p).attention.filter Entry.isQuench).length ≤ max (if p = 0 then 1 else 0)
      ((s.port p).attention.filter Entry.isQuench).length) : t.ListLaw := by
  refine ⟨fun p => ⟨fun x => ?_, fun l => ?_, ?_⟩, fun j q' hq' => h.2 j q' ((State.permit_of_slots hm.slots j).symm.trans hq')⟩
  · rw [hperm, (h.1 p).1,
      State.awaits_of_shown (s := s) (t := t) (fun x => by rw [State.resolve_of_slots hm.slots]) (fun p => (hm.opened p).2)]
  · exact le_trans (hline p l) (Nat.max_le.mpr ⟨Nat.le_refl _, (h.1 p).2.1 l⟩)
  · exact le_trans (hquench p) (Nat.max_le.mpr ⟨Nat.le_refl _, (h.1 p).2.2⟩)

/-- The entry of a line, as a lock of the line records its cause in it (R109). -/
def relabelled (l : LineId) (c : LockCause) (e : Entry) : Entry := if Entry.isLine l e = true then Entry.line l c else e

theorem relabelled_keeps (l : LineId) (c : LockCause) (e : Entry) : (∀ l', Entry.isLine l' (relabelled l c e) = Entry.isLine l' e) ∧
    Entry.isQuench (relabelled l c e) = Entry.isQuench e ∧ ∀ x, (relabelled l c e == .permit x) = (e == .permit x) := by
  unfold relabelled
  split
  · next h =>
    cases e with
    | line m c' =>
      have hm : m = l := of_decide_eq_true h
      subst hm
      exact ⟨fun _ => rfl, rfl, fun _ => rfl⟩
    | permit => cases h
    | quench => cases h
  · exact ⟨fun _ => rfl, rfl, fun _ => rfl⟩

/-- A port whose list alone is written. -/
theorem State.attention_setPort (s : State) (p : Port) (list : List Entry) (x : Port) :
    ((s.setPort p { s.port p with attention := list }).port x).attention = if x = p then list else (s.port x).attention := by
  rw [State.port_setPort]
  by_cases h : x = p
  · rw [if_pos h.symm, if_pos h]
  · rw [if_neg (Ne.symm h), if_neg h]

theorem State.ListLaw.relabel {s : State} (h : s.ListLaw) (l : LineId) (c : LockCause) :
    (s.setPort 0 { s.port 0 with attention := (s.port 0).attention.map (relabelled l c) }).ListLaw := by
  have hlen : ∀ (test : Entry → Bool), (∀ e, test (relabelled l c e) = test e) → ∀ xs : List Entry,
      ((xs.map (relabelled l c)).filter test).length = (xs.filter test).length := by
    intro test ht xs
    rw [List.filter_map, List.length_map]
    congr 1
    exact List.filter_congr fun e _ => ht e
  refine h.of_entries (State.marks_setPort ⟨rfl, rfl⟩ ⟨rfl, rfl⟩) (fun p x => ?_) (fun p l' => ?_) fun p => ?_
  · rw [State.attention_setPort]
    split
    · next hp =>
      subst hp
      rw [List.count_eq_length_filter, List.count_eq_length_filter]
      exact hlen (· == .permit x) (fun e => (relabelled_keeps l c e).2.2 x) _
    · rfl
  · rw [State.attention_setPort]
    split
    · next hp =>
      subst hp
      rw [hlen (Entry.isLine l') (fun e => (relabelled_keeps l c e).1 l')]
      exact Nat.le_max_right ..
    · exact Nat.le_max_right ..
  · rw [State.attention_setPort]
    split
    · next hp =>
      subst hp
      rw [hlen Entry.isQuench (fun e => (relabelled_keeps l c e).2.1)]
      exact Nat.le_max_right ..
    · exact Nat.le_max_right ..

/-- An entry of a line or of quench that P0's list does not hold may be appended to it. -/
theorem State.ListLaw.append {s : State} (h : s.ListLaw) {e : Entry} (hp : ∀ x, e ≠ .permit x)
    (hl : ∀ l, Entry.isLine l e = true → (s.port 0).attention.filter (Entry.isLine l) = [])
    (hq : Entry.isQuench e = true → (s.port 0).attention.filter Entry.isQuench = []) : (s.appendEntry 0 e).ListLaw := by
  have hlen : ∀ (test : Entry → Bool), (test e = true → (s.port 0).attention.filter test = []) →
      (((s.port 0).attention ++ [e]).filter test).length ≤ max 1 ((s.port 0).attention.filter test).length := by
    intro test ht
    rw [List.filter_append, List.length_append]
    cases he : test e with
    | true => simp [ht he, he]
    | false => simp [he]
  refine h.of_entries (s.marks_appendEntry 0 e) (fun p x => ?_) (fun p l' => ?_) fun p => ?_
  · rw [State.appendEntry, State.attention_setPort]
    split
    · next h0 => subst h0; simp [List.count_append, hp x]
    · rfl
  · rw [State.appendEntry, State.attention_setPort]
    split
    · next h0 => subst h0; exact hlen _ (hl l')
    · exact Nat.le_max_right ..
  · rw [State.appendEntry, State.attention_setPort]
    split
    · next h0 => subst h0; exact hlen _ hq
    · exact Nat.le_max_right ..

theorem filter_eq_nil_of_any {xs : List Entry} {test : Entry → Bool} (h : xs.any test = false) : xs.filter test = [] := by
  rw [List.filter_eq_nil_iff]
  exact List.any_eq_false.mp h

theorem State.ListLaw.placeLineEntry {s : State} (h : s.ListLaw) (l : LineId) (c : LockCause) : (s.placeLineEntry l c).ListLaw := by
  unfold State.placeLineEntry
  dsimp only
  split
  · split
    · exact h.relabel l c
    · next hany =>
      refine h.append (fun _ => nofun) (fun l' hl => ?_) (fun hq => nomatch hq)
      have heq : l = l' := of_decide_eq_true hl
      subst heq
      exact filter_eq_nil_of_any (by simpa using hany)
  · exact h

theorem State.ListLaw.placeQuenchEntry {s : State} (h : s.ListLaw) : s.placeQuenchEntry.ListLaw := by
  unfold State.placeQuenchEntry
  dsimp only
  split
  · next hany =>
    simp only [Bool.and_eq_true, Bool.not_eq_true'] at hany
    exact h.append (fun _ => nofun) (fun _ hl => nomatch hl) fun _ => filter_eq_nil_of_any hany.2
  · exact h

theorem State.ListLaw.marked {s : State} (h : s.ListLaw) (l : LineId) (c : LockCause) : (s.marked l c).ListLaw :=
  (State.ListLaw.of_slots (t := s.setLine l { s.line l with condition := .locked c }) h rfl fun _ => ⟨rfl, rfl⟩).placeLineEntry l c

theorem State.ListLaw.quenchMarked {s : State} (h : s.ListLaw) (low latch : Bool) : (s.quenchMarked low latch).ListLaw := by
  have hw : ({ s with quenchLow := low, latch := latch } : State).ListLaw := h.of_slots rfl fun _ => ⟨rfl, rfl⟩
  unfold State.quenchMarked
  split
  · exact hw
  · exact hw.placeQuenchEntry

/-! ### Loud acts -/

section
variable {s t : State}

theorem State.beats_releaseGroups (u : State) : State.Beats .run u u.releaseGroups := (State.via_releaseGroups u).beats

theorem State.tied_cleared {s : State} : s.cleared.OwnerLaw ∧ s.cleared.OrphanLaw ∧ s.cleared.ReferenceLaw := by
  refine ⟨fun i q hq => ?_, fun i q hq => ?_, fun i q hq => ?_⟩
  · exact absurd ((s.permit_cleared i).symm.trans hq) nofun
  · exact absurd ((s.permit_cleared i).symm.trans hq) nofun
  · exact absurd ((s.permit_cleared i).symm.trans hq) nofun

/-- Every loud act but a teardown and CLEAR_TABLE is marks, and then a happening that ends permits and clears no session. -/
theorem State.Loud.session_cases (h : State.Loud s t) :
    (∃ p, t = (s.tornDown p).releaseGroups) ∨ t = s.cleared.releaseGroups ∨
      ∃ u, s.SameBooks u ∧ u.slots = s.slots ∧ (s.ListLaw → u.ListLaw) ∧ State.Beats .ends u t ∧ (u.OrphanLaw → t.OrphanLaw) := by
  cases h with
  | whole h orphans => exact .inr (.inr ⟨s, .of_slots rfl fun _ => ⟨rfl, rfl, rfl⟩, rfl, fun h => h, h.beats, orphans⟩)
  | teardown p => exact .inl ⟨p, s.teardown_eq p⟩
  | clear => exact .inr (.inl s.clearAll_eq)
  | lock l c =>
    have hm := s.marks_marked l c
    exact .inr (.inr ⟨s.marked l c, .of_marks hm, hm.slots, fun h => h.marked l c, (State.whole_endMany_release rfl _ _).beats,
      fun h => State.OrphanLaw.releaseGroups (State.OrphanLaw.endMany h)⟩)
  | quench low latch =>
    have hm := s.marks_quenchMarked low latch
    refine .inr (.inr ⟨s.quenchMarked low latch, .of_marks hm, hm.slots, fun h => h.quenchMarked low latch, ?_, ?_⟩)
    · rw [State.setQuench_eq]
      split
      · exact (State.whole_endMany_release rfl _ _).beats
      · exact .refl
    · rw [State.setQuench_eq]
      split
      · exact fun h => State.OrphanLaw.releaseGroups (State.OrphanLaw.endMany h)
      · exact fun h => h

theorem State.Loud.owners (h : State.Loud s t) (ho : s.OwnerLaw) : t.OwnerLaw ∧ (s.CountLaw → t.CountLaw) := by
  obtain ⟨p, rfl⟩ | rfl | ⟨u, hb, -, -, hbeats, -⟩ := h.session_cases
  · have hbeats := (s.tornDown p).beats_releaseGroups
    exact ⟨hbeats.ownerLaw rfl (State.OwnerLaw.tornDown p ho), fun hc => hbeats.countLaw rfl (State.CountLaw.tornDown p hc)⟩
  · have hbeats := s.cleared.beats_releaseGroups
    exact ⟨hbeats.ownerLaw rfl State.tied_cleared.1, fun hc => hbeats.countLaw rfl (hc.cleared ho)⟩
  · exact ⟨hbeats.ownerLaw rfl (hb.ownerLaw ho), fun hc => hbeats.countLaw rfl (hb.countLaw hc)⟩

theorem State.Loud.referenceLaw (h : State.Loud s t) (hs : s.ReferenceLaw) : t.ReferenceLaw := by
  obtain ⟨p, rfl⟩ | rfl | ⟨u, hb, -, -, hbeats, -⟩ := h.session_cases
  · exact (s.tornDown p).beats_releaseGroups.referenceLaw rfl (State.ReferenceLaw.tornDown p hs)
  · exact s.cleared.beats_releaseGroups.referenceLaw rfl State.tied_cleared.2.2
  · exact hbeats.referenceLaw rfl (hb.referenceLaw hs)

theorem State.Loud.orphanLaw (h : State.Loud s t) (hs : s.OrphanLaw) : t.OrphanLaw := by
  obtain ⟨p, rfl⟩ | rfl | ⟨u, -, hslots, -, -, horphans⟩ := h.session_cases
  · exact State.OrphanLaw.releaseGroups (State.OrphanLaw.tornDown p hs)
  · exact State.OrphanLaw.releaseGroups State.tied_cleared.2.1
  · exact horphans fun i q hq => hs i q ((State.permit_of_slots hslots i).symm.trans hq)

theorem State.Loud.listLaw (h : State.Loud s t) (ho : s.OwnerLaw) (hs : s.ListLaw) : t.ListLaw := by
  obtain ⟨p, rfl⟩ | rfl | ⟨u, hb, -, hlist, hbeats, -⟩ := h.session_cases
  · exact (s.tornDown p).beats_releaseGroups.listLaw rfl (State.OwnerLaw.tornDown p ho) (State.ListLaw.tornDown p hs)
  · exact s.cleared.beats_releaseGroups.listLaw rfl State.tied_cleared.1 hs.cleared
  · exact hbeats.listLaw rfl (hb.ownerLaw ho) (hlist hs)

end

/-! ### Every step -/

theorem State.ListLaw.settle {s : State} (h : s.ListLaw) : s.settleLevels.ListLaw :=
  h.of_slots rfl fun p => by rw [State.settleLevels, State.port_mapLines]; exact ⟨rfl, rfl⟩

section
variable {s t : State} (h : step s = .next t)
include h

theorem step_quotaLaw (hs : s.QuotaLaw) : t.QuotaLaw :=
  step_keeps (P := State.QuotaLaw) h (fun _ => hs) (fun _ _ h => h.quotaLaw) (fun _ _ h => h.quotaLaw) fun s h =>
    s.marks_settleLevels.quotaLaw h

theorem step_owners (ho : s.OwnerLaw) (hc : s.CountLaw) : t.OwnerLaw ∧ t.CountLaw :=
  step_keeps (P := fun s => s.OwnerLaw ∧ s.CountLaw) h (fun _ => ⟨ho, hc⟩)
    (fun _ _ h hs => ⟨(h.owners hs.1).1, (h.owners hs.1).2 hs.2⟩) (fun _ _ h hs => ⟨(h.owners hs.1).1, (h.owners hs.1).2 hs.2⟩)
    fun s hs => ⟨(State.SameBooks.of_marks s.marks_settleLevels).ownerLaw hs.1, (State.SameBooks.of_marks s.marks_settleLevels).countLaw hs.2⟩

theorem step_orphanLaw (hs : s.OrphanLaw) : t.OrphanLaw :=
  step_keeps (P := State.OrphanLaw) h (fun _ => hs) (fun _ _ h => h.orphanLaw) (fun _ _ h => h.orphanLaw) fun s hs i q hq =>
    hs i q ((State.permit_of_slots s.marks_settleLevels.slots i).symm.trans hq)

theorem step_referenceLaw (hs : s.ReferenceLaw) : t.ReferenceLaw :=
  step_keeps (P := State.ReferenceLaw) h (fun _ => hs) (fun _ _ h => h.referenceLaw) (fun _ _ h => h.referenceLaw) fun s hs =>
    (State.SameBooks.of_marks s.marks_settleLevels).referenceLaw hs

theorem step_listLaw (ho : s.OwnerLaw) (hs : s.ListLaw) : t.ListLaw :=
  (step_keeps (P := fun s => s.OwnerLaw ∧ s.ListLaw) h (fun _ => ⟨ho, hs⟩)
    (fun _ _ h hs => ⟨(h.owners hs.1).1, h.listLaw hs.1 hs.2⟩) (fun _ _ h hs => ⟨(h.owners hs.1).1, h.listLaw hs.1 hs.2⟩)
    fun s hs => ⟨(State.SameBooks.of_marks s.marks_settleLevels).ownerLaw hs.1, hs.2.settle⟩).2

end

end Sys2Proof.Machine

open Sys2Proof Sys2Proof.Machine

set_option Elab.async false

/-- Settles O56: a CREATE and a SET_QUOTA check the quotas, and an owner's port stays OPEN while it owns. -/
theorem quotasAndOwnersAreKept : Obligations.QuotasAndOwnersAreKept := fun _ _ h => ⟨step_quotaLaw h, step_owners h⟩

/-- Settles O57: references are checked by CREATE and by RETIRE, and an orphan's fall with what they name. -/
theorem referencesAreKept : Obligations.ReferencesAreKept := fun _ _ _ ho hr h => ⟨step_orphanLaw h ho, step_referenceLaw h hr⟩

/-- Settles O58: a permit joins a list as its pending set is first filled, and leaves it as the set is emptied. -/
theorem attentionListsAreKept : Obligations.AttentionListsAreKept := fun _ _ ho hl h =>
  ⟨step_listLaw h ho hl, fun p => by simp [PortUnit.intLow]⟩

end

section
/-! SUPPORT. Steps, reset, the port units and the engine's turn (R1, R156, R163). -/

namespace Sys2Proof.Machine

set_option Elab.async false

theorem State.Quiet.pending {s t : State} (h : State.Quiet s t) : t.pending = s.pending := by
  cases h with
  | aside h => exact h.pending
  | arms => rfl
  | amends => rfl
  | @acks p i q _ _ kinds => exact (s.rest_acknowledge p i q kinds).2.2.2.2.1
  | drops => rfl
  | places => rfl
  | @retires _ i => exact (s.moves_retire i).pending
  | opens => rfl
  | quota => rfl
  | groups => rfl
  | resets => rfl
  | released => rfl

theorem State.Acts.pending {s t : State} {b : Bool} (h : State.Acts s b t) : t.pending = s.pending :=
  h.keep (P := fun t => t.pending = s.pending) (fun _ _ h hs => h.pending.trans hs) (fun _ _ h hs => h.pending.trans hs)
    (fun t hs => t.marks_settleLevels.pending.trans hs) rfl

/-! ### While RESET_N is low (R156) -/

theorem State.execute_low {s : State} (h : s.resetLow = true) (run : Port → Request → Option Reply) : s.execute run = s :=
  State.outOfReset_low h _

theorem exec_low {s : State} (h : s.resetLow = true) (c : Instr) (hreset : c ≠ .reset) (hrelease : ∀ low, c ≠ .resetRelease low) :
    exec c s = .next s := by
  have hexec : ∀ run, (Host.Outcome.next (s.execute run) : Host.Outcome State Fault Refusal) = .next s := fun run =>
    congrArg _ (State.execute_low h run)
  have hout : ∀ f, (Host.Outcome.next (s.outOfReset f) : Host.Outcome State Fault Refusal) = .next s := fun f =>
    congrArg _ (State.outOfReset_low h f)
  cases c with
  | reset => exact absurd rfl hreset
  | resetRelease low => exact absurd rfl (hrelease low)
  | openSession | closeSession | status | readLines | create | arm | fire | renew | release | amend | retire | query | listTable
  | nextAttention | ackPermitEntry | ackLineEntry | ackQuenchEntry | revoke | setTimebase | startTimebase | stopTimebase | setInput
  | setLine | setGroup | lockLine | clearLine | setQuota | quenchSet | quenchClear | clearTable => exact hexec _
  | transactionStart | requestFrame | breakPort | unknownRequest | timebaseSourceEvent | timebaseTick | inputSample | filteredEdge
  | inputTrigger | inputRenewal | armingTick | phaseTick | waitEnd | pulseHoldEnd | trainHoldEnd | restEnd | leaseExpiry
  | blockedTick | starvation | gapTick | gapEnd | senseCheck | senseLock | quenchPinChange => exact hout _

/-! ### SDO (R156, R166) -/

theorem PortUnit.sdo_of_transaction {u : PortUnit} {x : ShiftOut} (hx : u.transaction = some x) (n : Nat) :
    u.sdo n = some ((responseFrame x.free x.response x.attention)[n]?.getD 0) := by
  rw [PortUnit.sdo_transaction hx, List.getD_eq_getElem?_getD]

theorem State.transaction_start (s : State) (p : Port) (x : ShiftOut) :
    ((State.drawn (s.setPort p { s.port p with transaction := some x })).port p).transaction = some x :=
  congrArg PortUnit.transaction ((State.port_setPort s p p _).trans (if_pos rfl))

/-! ### Frames of whole bytes (R156) -/

theorem bytesOf_flatMap (bytes : List Byte) {discarded : List Bool} (h : discarded.length < 8) :
    bytesOf (bytes.flatMap bitsOf ++ discarded) = bytes := by
  induction bytes with
  | nil => exact bytesOf_short discarded h
  | cons b rest ih =>
    rw [List.flatMap_cons, List.append_assoc, bytesOf_bitsOf_append, ih]

theorem length_flatMap_bitsOf {bytes : List Byte} (h : bytes ≠ []) (discarded : List Bool) :
    ¬ (bytes.flatMap bitsOf ++ discarded).length < 8 := by
  cases bytes with
  | nil => exact absurd rfl h
  | cons b rest =>
    have hb : (bitsOf b).length = 8 := rfl
    rw [List.flatMap_cons, List.append_assoc, List.length_append, hb]
    omega

theorem PortUnit.judge_eq (u : PortUnit) (x : ShiftOut) (bytes : List Byte) : u.judge x bytes = match parseFrame bytes with
    | none => { u with stored := { seq := u.lastSeq, code := 0xFF, status := .badFrame, data := [] } }
    | some f =>
      if f.code = 0 ∨ x.response.status = .notReady ∨ (u.lastSeq = some f.seq ∧ u.holder = .done) then u
      else { u with holder := .pending f, lastSeq := some f.seq } := by
  unfold PortUnit.judge
  cases parseFrame bytes with
  | none => rfl
  | some f =>
    dsimp only
    split
    · next h => rw [if_pos (.inl h)]
    next h1 =>
    split
    · next h => rw [if_pos (.inr (.inl h))]
    next h2 =>
    split
    · next h => rw [if_pos (.inr (.inr (by simpa using h)))]
    · next h3 => rw [if_neg fun h => h.elim h1 fun h => h.elim h2 fun h => h3 (by simpa using h)]

/-! ### The engine's turn (R163) -/

theorem Holder.request_eq_some {h : Holder} {f : Frame} : h.request = some f ↔ h = .pending f := by
  cases h <;> simp [Holder.request]

theorem Holder.request_eq_none {h : Holder} : h.request = none ↔ ∀ f, h ≠ .pending f := by
  cases h <;> simp [Holder.request]

theorem turn_eq (last : Port) : turn last = [last + 1 + 0, last + 1 + 1, last + 1 + 2] := by
  revert last; decide

theorem findSome?_cons_or {α β : Type} (f : α → Option β) (a : α) (l : List α) :
    (a :: l).findSome? f = (f a).or (l.findSome? f) := by
  rw [List.findSome?_cons]; cases f a <;> rfl

theorem State.nextRequest_eq_some {s : State} {p : Port} {f : Frame} : s.nextRequest = some (p, f) ↔
    (s.port p).holder = .pending f ∧
      ((p = s.lastServed + 1 + 0) ∨
        (p = s.lastServed + 1 + 1 ∧ ∀ f', (s.port (s.lastServed + 1 + 0)).holder ≠ .pending f') ∨
        (p = s.lastServed + 1 + 2 ∧ (∀ f', (s.port (s.lastServed + 1 + 0)).holder ≠ .pending f') ∧
          ∀ f', (s.port (s.lastServed + 1 + 1)).holder ≠ .pending f')) := by
  have hmap : ∀ q : Port, ((s.port q).holder.request.map fun f => (q, f)) = some (p, f) ↔
      (s.port p).holder = .pending f ∧ p = q := by
    intro q
    simp only [Option.map_eq_some_iff, Holder.request_eq_some, Prod.mk.injEq]
    constructor
    · rintro ⟨f', h, rfl, rfl⟩
      exact ⟨h, rfl⟩
    · rintro ⟨h, rfl⟩
      exact ⟨f, h, rfl, rfl⟩
  simp only [State.nextRequest, turn_eq, findSome?_cons_or, List.findSome?_nil, Option.or_none, Option.or_eq_some_iff,
    Option.map_eq_none_iff, Holder.request_eq_none, hmap]
  tauto

end Sys2Proof.Machine

open Sys2Proof Sys2Proof.Machine

set_option Elab.async false

/-- Settles O1: step is a match on the queue. -/
theorem stepRunsFrontCommand : Obligations.StepRunsFrontCommand := fun _ _ _ => ⟨rfl, rfl⟩

/-- Settles O2: every command comes to a chain of acts, none of which takes a command. -/
theorem everyCommandCompletes : Obligations.EveryCommandCompletes := fun c s =>
  let ⟨t, ht, ha⟩ := exec_acts c s
  ⟨t, ht, ha.pending⟩

/-- Settles O3: RESET writes every item, and RESET_RELEASE two fields. -/
theorem resetAndRelease : Obligations.ResetAndRelease := by
  intro s
  refine ⟨⟨State.resetAs s.pending s.freeCount, rfl, rfl, rfl, rfl, rfl, rfl, fun i => ⟨by simp, by rw [State.slot_resetAs]; rfl⟩,
    fun l => ?line, fun g => by rw [State.group_resetAs]; rfl, fun k => by rw [State.timebase_resetAs]; rfl,
    fun n => by rw [State.input_resetAs]; rfl, fun p => ?port⟩, fun low => ⟨fun h => ⟨?release, fun hl => ?quench⟩, fun h => ?high⟩⟩
  case line => rw [State.line_resetAs]; exact ⟨rfl, rfl⟩
  case port =>
    rw [State.port_resetAs]
    exact ⟨rfl, rfl, rfl, rfl, rfl, rfl, rfl, rfl, rfl, fun _ => rfl⟩
  case release => simp [exec, execResetRelease, h]
  case quench => simp [State.quenched, hl]
  case high => simp [exec, execResetRelease, h]

/-- Settles O4: every command but the two is an execution, or a happening out of reset. -/
theorem nothingHappensInReset : Obligations.NothingHappensInReset := fun c _ h => exec_low h c

/-- Settles O5: SDO carries the frame that the fall of chip select fixes, bit by bit. -/
theorem transactionStartFixesResponse : Obligations.TransactionStartFixesResponse := by
  intro s p r hlow hidle hr
  have hchosen : (s.port p).chosenResponse = r := by rw [hr]; rfl
  refine ⟨(Config.freeByte s.freeCount 255).setWidth 4, _, ?_, rfl, fun n b hb => ?_⟩
  · show Host.Outcome.next (s.outOfReset _) = _
    rw [State.outOfReset_high hlow]
    dsimp only
    rw [hidle, ← hchosen]
    rfl
  · have hb' := (PortUnit.sdo_of_transaction (s.transaction_start p ⟨r, (s.port p).attention.length, (Config.freeByte s.freeCount 255).setWidth 4⟩) n).trans
      (congrArg some hb.symm)
    exact ⟨hb', fun k hk => PortUnit.sdoBit_eq hb' hk⟩

/-- Settles O6: the whole bytes of the bits sampled are judged. -/
theorem requestFrameIsJudged : Obligations.RequestFrameIsJudged := by
  intro s p x hlow hx
  refine ⟨fun bytes bits discarded hne hd hbits => ?_, fun bits hshort => ?_⟩
  · have hbits : bits = bytes.flatMap bitsOf ++ discarded := hbits
    have hexec : exec (.requestFrame p bits) s =
        .next (s.setPort p { (s.port p).judge x bytes with transaction := none }) := by
      show Host.Outcome.next (s.outOfReset _) = _
      rw [State.outOfReset_high hlow]
      dsimp only
      rw [hx]
      dsimp only
      rw [hbits, if_neg (length_flatMap_bitsOf hne discarded), bytesOf_flatMap bytes hd]
    rw [hexec, PortUnit.judge_eq]
    congr 2
    cases parseFrame bytes with
    | none => rfl
    | some f =>
      dsimp only
      split
      · rfl
      · rfl
  · show Host.Outcome.next (s.outOfReset _) = Host.Outcome.next (s.outOfReset _)
    rw [State.outOfReset_high hlow, State.outOfReset_high hlow]
    dsimp only
    rw [hx]
    dsimp only
    rw [if_pos hshort]

/-- Settles O12: the search goes over the three ports, from the one after the last served. -/
theorem engineServesInTurn : Obligations.EngineServesInTurn := by
  intro s p f
  rw [State.nextRequest_eq_some]
  refine and_congr_right fun _ => ⟨?_, ?_⟩
  · rintro (h | ⟨h, h0⟩ | ⟨h, h0, h1⟩)
    · exact ⟨0, h, fun j hj => absurd hj (Fin.not_lt_zero j)⟩
    · exact ⟨1, h, fun j hj => by have : j = 0 := by omega
                                  exact this ▸ h0⟩
    · exact ⟨2, h, fun j hj => by obtain rfl | rfl : j = 0 ∨ j = 1 := by omega
                                  · exact h0
                                  · exact h1⟩
  · rintro ⟨k, h, hk⟩
    obtain rfl | rfl | rfl : k = 0 ∨ k = 1 ∨ k = 2 := by omega
    · exact .inl h
    · exact .inr (.inl ⟨h, hk 0 (by decide)⟩)
    · exact .inr (.inr ⟨h, hk 0 (by decide), hk 1 (by decide)⟩)

/-- Settles O13: a request that decoding refuses stores its status. -/
theorem unknownRequestIsAnswered : Obligations.UnknownRequestIsAnswered := by
  intro s p f st hl hlow hnext hdec
  show Host.Outcome.next (s.outOfReset _) = _
  rw [State.outOfReset_high hlow, hnext]
  dsimp only
  rw [hdec]
  exact congrArg _ (State.finish_eq hl)

end

section
/-! SUPPORT. Requests that are answered (R163), and the requests and triggers that move one permit: ARM, FIRE, RENEW, AMEND, and what a
trigger does in each state (chapters 2 to 4). -/

namespace Sys2Proof.Machine

set_option Elab.async false

/-! ### Requests that are answered (R163) -/

section Answered
variable {s t : State} {p : Port} {f : Frame} {r : Request} {st : Status} {data : List Byte} {run : Port → Request → Option Reply}

/-- The row of a request stores its answer. -/
theorem State.execute_answered (hl : t.LevelLaw) (ht : s.Turn p f r) (hr : run p r = some ⟨t, st, data⟩) :
    s.execute run = t.answered p f st data := by
  rw [State.execute_turn ht, hr]
  exact State.finish_eq hl

/-- Where the answer moves claims, the lines take their levels before it is stored. -/
theorem State.execute_settled (ht : s.Turn p f r) (hr : run p r = some ⟨t, st, data⟩) :
    s.execute run = t.settleLevels.answered p f st data := by
  rw [State.execute_turn ht, hr, ← State.finish_eq (r := ⟨t.settleLevels, st, data⟩) t.levelLaw_settleLevels]
  simp only [State.finish, State.settleLevels_eq t.levelLaw_settleLevels]

end Answered

theorem State.checked_passes {s : State} {checks : List (Bool × Status)} {go : Reply} (h : ∀ c ∈ checks, c.1 = true) :
    s.checked checks go = go := by rw [State.checked, firstFailure_eq_none.mpr h]

theorem State.Supervisor.checks {s : State} {p : Port} (h : s.Supervisor p) : ∀ c ∈ s.supervisorChecks p, c.1 = true := by
  obtain ⟨rfl, hopen⟩ := h
  simp [State.supervisorChecks, hopen]

theorem State.Passes.withPermit {s : State} {p : Port} {h : RawHandle} {i : SlotId} {q : Permit} (hp : s.Passes p h i q)
    (go : SlotId → Permit → Reply) : s.withPermit p false h go = go i q := by
  rw [State.withPermit, hp.checkHandle]

theorem State.Passes.permit {s : State} {p : Port} {h : RawHandle} {i : SlotId} {q : Permit} (hp : s.Passes p h i q) :
    s.permit i = some q := hp.2.1.2.2

section AnsweredForPermit
variable {s t : State} {p : Port} {f : Frame} {r : Request} {h : RawHandle} {i : SlotId} {q : Permit} {st : Status}
  {data : List Byte} {go : SlotId → Permit → Reply} {run : Port → Request → Option Reply}

/-- The row of a request that names a permit stores what the request answers for that permit. -/
theorem State.Passes.execute_answered (hp : s.Passes p h i q) (ht : s.Turn p f r)
    (hr : run p r = some (s.withPermit p false h go)) (hg : go i q = ⟨t, st, data⟩) (hl : t.LevelLaw) :
    s.execute run = t.answered p f st data :=
  State.execute_answered hl ht (by rw [hr, hp.withPermit, hg])

theorem State.Passes.execute_settled (hp : s.Passes p h i q) (ht : s.Turn p f r)
    (hr : run p r = some (s.withPermit p false h go)) (hg : go i q = ⟨t, st, data⟩) :
    s.execute run = t.settleLevels.answered p f st data :=
  State.execute_settled ht (by rw [hr, hp.withPermit, hg])

end AnsweredForPermit

theorem State.levelLaw_setPermit {s : State} (hl : s.LevelLaw) (i : SlotId) (q : Permit) : (s.setPermit i q).LevelLaw := hl

/-! ### Triggers (R47 to R57) -/

theorem State.gateOpen_iff {s : State} {q : Permit} :
    s.gateOpen q = true ↔ ∀ h, q.gate = some h → ∃ r, s.resolve h = some r ∧ r.state = .active := by
  unfold State.gateOpen
  cases q.gate with
  | none => simp
  | some h => cases hr : s.resolve h <;> simp [hr]

theorem State.gateOpen_eq_false {s : State} {q : Permit} {h : Handle} (hg : q.gate = some h)
    (hr : ∀ r, s.resolve h = some r → r.state ≠ .active) : s.gateOpen q = false :=
  Bool.eq_false_iff.mpr fun ho =>
    let ⟨r, hres, hact⟩ := State.gateOpen_iff.mp ho h hg
    hr r hres hact

section Trigger
variable {s : State} {i : SlotId} {q : Permit} (hq : s.permit i = some q)
include hq

theorem State.takeTrigger_outOfService (h : q.state = .idle ∨ q.state = .ended) : s.takeTrigger i = (.passedBy, s) := by
  unfold State.takeTrigger
  obtain h | h := h <;> simp only [hq, h]

theorem State.takeTrigger_arming (h : q.state = .arming) : s.takeTrigger i = (.missed, s.raise i .missed) := by
  unfold State.takeTrigger
  simp only [hq, h]

theorem State.takeTrigger_armed (h : q.state = .armed) : s.takeTrigger i =
    if s.gateOpen q && !s.quenched then (.accepted, s.accept i q) else (.missed, s.raise i .missed) := by
  unfold State.takeTrigger
  simp only [hq, h]

theorem State.takeTrigger_running (h : q.state.running = true) : s.takeTrigger i =
    if q.retrigger = .restart && s.gateOpen q then (.restarted, s.restart i q) else (.missed, s.raise i .missed) := by
  unfold State.takeTrigger
  rw [hq]
  cases hs : q.state with
  | waiting | blocked | active | resting => simp only [hs]
  | idle | arming | armed | ended => rw [hs] at h; cases h

/-- A trigger at a permit in service has an outcome (R49). -/
theorem State.takeTrigger_inService (h : q.state.inService = true) : (s.takeTrigger i).1 ≠ .passedBy := by
  by_cases hr : q.state.running = true
  · rw [State.takeTrigger_running hq hr]
    split <;> simp
  · obtain ha | ha : q.state = .arming ∨ q.state = .armed := by
      cases hs : q.state <;> simp_all [PState.inService, PState.running]
    · rw [State.takeTrigger_arming hq ha]; simp
    · rw [State.takeTrigger_armed hq ha]
      split <;> simp

end Trigger

/-- A run that begins with a wait (R51, R54). -/
theorem State.beginRun_wait {s : State} {i : SlotId} {q : Permit} (hw : 0 < q.wait) :
    (s.setPermit i q.clearCounters).beginRun i =
      s.setPermit i { q with cycles := 0, renewalAge := 0, blockedAge := 0, state := .waiting, remaining := q.wait } := by
  have hne : q.clearCounters.wait ≠ 0 := Nat.pos_iff_ne_zero.mp hw
  simp only [State.beginRun, State.permit_setPermit, if_true, if_neg hne, State.setPermit_setPermit]
  rfl

/-- A run that begins with an activation request (R51, R54). -/
theorem State.beginRun_activates {s : State} {i : SlotId} {q : Permit} (hw : q.wait = 0) :
    (s.setPermit i q.clearCounters).beginRun i =
      (s.setPermit i { q with cycles := 0, renewalAge := 0, blockedAge := 0 }).activate i := by
  have hz : q.clearCounters.wait = 0 := hw
  simp only [State.beginRun, State.permit_setPermit, if_true, hz]
  rfl

theorem State.restart_fromWait (s : State) (i : SlotId) {q : Permit} (h : q.state = .waiting ∨ q.state = .resting) :
    s.restart i q = ((s.setPermit i q.clearCounters).beginRun i).raise i .triggered := by
  obtain h | h := h <;> simp only [State.restart, h]

theorem State.restart_fromBlocked (s : State) (i : SlotId) {q : Permit} (h : q.state = .blocked) :
    s.restart i q = (((s.leaveQueues (s.handle i)).setPermit i q.clearCounters).beginRun i).raise i .triggered := by
  simp only [State.restart, h]

theorem State.restart_inPlace (s : State) (i : SlotId) {q : Permit} (h : q.state = .active) (hw : q.wait = 0) :
    s.restart i q = (s.setPermit i q.restartedInPlace).raise i .triggered := by
  simp only [State.restart, h, hw, if_true]

theorem State.restart_toWait (s : State) (i : SlotId) {q : Permit} (h : q.state = .active) (hw : 0 < q.wait) :
    s.restart i q = (((s.removeClaims q.lines).setPermit i
      { q.clearCounters with state := .waiting, remaining := q.wait }).releaseGroups).raise i .triggered := by
  simp only [State.restart, h, if_neg (Nat.pos_iff_ne_zero.mp hw)]

/-! ### RENEW (R66 to R69) -/

theorem Permit.insideWindow_lease {q : Permit} {src : RenewalSource} {m : Nat} (h : q.shape = .lease src m) :
    q.insideWindow = decide (0 < m ∧ q.renewalAge < m) := by rw [Permit.insideWindow, h]; rfl

theorem Shape.renewedByPort_iff {x : Shape} : x.renewedByPort = true ↔ ∃ m, x = .lease .port m := by
  cases x with
  | pulse | train => simp [Shape.renewedByPort]
  | lease src m => cases src <;> simp [Shape.renewedByPort]

theorem Permit.takesRenew_iff {q : Permit} : q.takesRenew = true ↔ q.state = .waiting ∨ q.state = .blocked ∨ q.state = .active := by
  unfold Permit.takesRenew
  cases q.state <;> simp

/-! ### AMEND (R74 to R81) -/

theorem choiceOf_eq {α : Type} (x y : α) {b : Byte} (h : b.toNat < 2) : choiceOf x y b = some (if b = 0 then x else y) := by
  have hb : b = 0 ∨ b = 1 := by
    obtain h | h : b.toNat = 0 ∨ b.toNat = 1 := by omega
    · exact .inl (BitVec.eq_of_toNat_eq h)
    · exact .inr (BitVec.eq_of_toNat_eq h)
  obtain rfl | rfl := hb <;> rfl

/-- A policy named by an AMEND is the one of its byte (R81). -/
theorem choiceOf_named {α : Type} (x y old : α) {b : Byte} {named : Bool} (h : named = true → b.toNat < 2) :
    (if named then (choiceOf x y b).getD old else old) = if named then (if b = 0 then x else y) else old := by
  cases named with
  | false => rfl
  | true => simp only [if_true, choiceOf_eq x y (h rfl), Option.getD_some]

theorem max_one_word (w : Word) : max 1 w.toNat = if w = 0 then 1 else w.toNat := by
  have hzero : w = 0 ↔ w.toNat = 0 := BitVec.toNat_inj.symm
  rw [if_congr hzero rfl rfl]
  split <;> omega

/-- An IMMEDIATE amendment writes the count of the phase in course (R76, R77). -/
theorem AmendFields.remaining_eq (a : AmendFields) (q : Permit) : AmendFields.remaining a (a.mode = 1) q =
    if a.mode = 1 ∧ q.state = .waiting ∧ a.fieldMask.getLsbD 0 = true then (if a.wait = 0 then 1 else a.wait.toNat)
    else if a.mode = 1 ∧ q.state = .active ∧ a.fieldMask.getLsbD 1 = true then a.hold.toNat
    else if a.mode = 1 ∧ q.state = .resting ∧ a.fieldMask.getLsbD 2 = true then a.rest.toNat
    else q.remaining := by
  unfold AmendFields.remaining AmendFields.names
  by_cases hm : a.mode = 1
  · cases hs : q.state <;> simp [hm, max_one_word]
  · simp only [hm, decide_false, Bool.false_eq_true, if_false, false_and]

/-- The blocked age stays only where a limit stood and still stands (R80). -/
theorem AmendFields.blockedAge_eq (a : AmendFields) (q : Permit) : AmendFields.blockedAge a q =
    if a.fieldMask.getLsbD 5 = true ∧ (q.blockLimit = none ∨ a.blockLimit = 0) then 0 else q.blockedAge := by
  unfold AmendFields.blockedAge AmendFields.names blockLimitOf
  cases a.fieldMask.getLsbD 5 with
  | false => simp
  | true => cases hb : q.blockLimit <;> by_cases h0 : a.blockLimit = 0 <;> simp [h0]

end Sys2Proof.Machine

open Sys2Proof Sys2Proof.Machine

set_option Elab.async false

/-- Settles O25: the checks of ARM pass, and its answer is the permit rearmed. -/
theorem armStartsArming : Obligations.ArmStartsArming := by
  intro s p f h i q hl ht hp hstate hquench hlines hgrouped htb
  refine congrArg Host.Outcome.next (hp.execute_answered ht rfl
    (State.checked_passes ?_) (State.levelLaw_setPermit hl i _))
  have hlocked := (State.not_anyLocked_eq s q).trans (decide_eq_true hlines)
  have hout := (PState.not_inService_eq q.state).trans (decide_eq_true hstate)
  simp [hout, hquench, hlocked, hgrouped, htb]

/-- Settles O27: FIRE and the edge due are the trigger taken. -/
theorem triggersAreDelivered : Obligations.TriggersAreDelivered := by
  intro s i
  refine ⟨fun p f h q ht hp htrig hin hquench => ⟨?_, State.takeTrigger_inService hp.permit hin⟩, fun hlow hdue => ?_⟩
  · refine (congrArg Host.Outcome.next (hp.execute_settled ht rfl (State.checked_passes ?_))).trans ?_
    · simp [htrig, hin, hquench]
    · rfl
  · show Host.Outcome.next (s.outOfReset _) = _
    rw [State.outOfReset_high hlow, State.takeDue_mem hdue]

/-- Settles O28: the trigger by the permit's state, its gate and its policy. -/
theorem triggersAreJudgedByState : Obligations.TriggersAreJudgedByState := by
  intro s i q hq
  refine ⟨State.takeTrigger_outOfService hq, State.takeTrigger_arming hq, fun ha => ⟨fun ⟨hgate, hquench⟩ => ?_, fun hno => ?_⟩,
    fun hrun => ⟨fun hig => ?_, fun hre ⟨h, hg, hr⟩ => ?_, fun hre hgate => ?_⟩⟩
  · have htake : s.takeTrigger i = (.accepted, s.accept i q) := by
      rw [State.takeTrigger_armed hq ha, if_pos (by simp [State.gateOpen_iff.mpr hgate, hquench])]
    rw [htake]
    refine ⟨rfl, fun hw => ?_, fun hw => ?_⟩
    · exact congrArg (State.raise · i .triggered) (State.beginRun_wait hw)
    · exact congrArg (State.raise · i .triggered) (State.beginRun_activates hw)
  · rw [State.takeTrigger_armed hq ha, if_neg]
    rw [Bool.and_eq_true, Bool.not_eq_true', State.gateOpen_iff]
    exact hno
  · rw [State.takeTrigger_running hq hrun, if_neg (by simp [hig])]
  · rw [State.takeTrigger_running hq hrun, if_neg (by simp [State.gateOpen_eq_false hg hr])]
  · rw [State.takeTrigger_running hq hrun, if_pos (by simp [hre, State.gateOpen_iff.mpr hgate])]

/-- Settles O29: a RESTART by the permit's running state and its wait. -/
theorem restartActsByState : Obligations.RestartActsByState := by
  intro s i q hq hre hgate
  have htake : q.state.running = true → (s.takeTrigger i).2 = s.restart i q := fun hrun => by
    rw [State.takeTrigger_running hq hrun, if_pos (by simp [hre, State.gateOpen_iff.mpr hgate])]
  have hrunning : q.state = .waiting ∨ q.state = .resting → q.state.running = true := by rintro (h | h) <;> rw [h] <;> rfl
  have hraise : ∀ {u v : State}, u = v → u.raise i .triggered = v.raise i .triggered := fun h => h ▸ rfl
  refine ⟨fun hs hw => ?_, fun hs hw => ?_, fun hs hw => ?_, fun hs hw => ?_, fun hs hw => ?_, fun hs hw => ?_⟩
  · exact (htake (by rw [hs]; rfl)).trans (s.restart_inPlace i hs hw)
  · exact (htake (by rw [hs]; rfl)).trans (s.restart_toWait i hs hw)
  · exact ((htake (hrunning hs)).trans (s.restart_fromWait i hs)).trans (hraise (State.beginRun_wait hw))
  · exact ((htake (hrunning hs)).trans (s.restart_fromWait i hs)).trans (hraise (State.beginRun_activates hw))
  · exact ((htake (by rw [hs]; rfl)).trans (s.restart_fromBlocked i hs)).trans (hraise (State.beginRun_wait hw))
  · exact ((htake (by rw [hs]; rfl)).trans (s.restart_fromBlocked i hs)).trans (hraise (State.beginRun_activates hw))

/-- Settles O30: a raise by the owner, the mask and the pending set. -/
theorem raisedKindsArePending : Obligations.RaisedKindsArePending := by
  intro s i q k hq
  refine ⟨fun ho => ?_, fun hk hm => ?_, fun o ho hk => ⟨fun hp => ?_, fun hp => ?_⟩⟩
  · simp only [State.raise, hq, ho]
  · have hrep : q.reports k = false := by simp [Permit.reports, hk, hm]
    simp only [State.raise, hq, hrep]
    cases q.owner <;> rfl
  · have hrep : q.reports k = true := by simpa [Permit.reports] using hk
    have hne : q.pending.isEmpty = false := by simpa [NoticeSet.isEmpty, NoticeSet.empty] using hp
    simp only [State.raise, hq, ho, hrep, hne]
    rfl
  · have hrep : q.reports k = true := by simpa [Permit.reports] using hk
    have he : q.pending.isEmpty = true := by rw [hp]; rfl
    simp only [State.raise, hq, ho, hrep, he]
    rfl

/-- Settles O32: RENEW by the shape, the state and the window. -/
theorem renewRestartsHold : Obligations.RenewRestartsHold := by
  intro s p f h i q hl ht hp
  refine ⟨fun m hm => ?_, fun hno => ?_⟩
  · have hport : q.shape.renewedByPort = true := Shape.renewedByPort_iff.mpr ⟨m, hm⟩
    have hwin := Permit.insideWindow_lease hm
    refine ⟨fun hs hout => ?_, fun hs hm0 hin => ?_, fun hs => ?_, fun hs => ?_⟩
    · have hnot : q.insideWindow = false := by rw [hwin]; simpa using fun h0 => by omega
      refine congrArg Host.Outcome.next (hp.execute_answered ht rfl
        ((State.checked_passes ?_).trans (if_pos hs)) (State.levelLaw_setPermit hl i _))
      simp [hport, Permit.takesRenew_iff.mpr (.inr (.inr hs)), hnot]
    · have hyes : q.insideWindow = true := by rw [hwin]; simp [hm0, hin]
      refine congrArg Host.Outcome.next (hp.execute_refused hl ht rfl (State.checked_refused ?_))
      simp [firstFailure_cons, hport, Permit.takesRenew_iff.mpr (.inr (.inr hs)), hs, hyes]
    · have hnot : ¬ q.state = .active := by obtain hs | hs := hs <;> simp [hs]
      refine congrArg Host.Outcome.next (hp.execute_answered ht rfl ((State.checked_passes ?_).trans (if_neg hnot)) hl)
      have htakes : q.takesRenew = true := Permit.takesRenew_iff.mpr (hs.imp_right .inl)
      simp [hport, htakes, hnot]
    · have hnot : q.takesRenew = false := Bool.eq_false_iff.mpr fun h => by
        obtain h | h | h := Permit.takesRenew_iff.mp h
        exacts [hs.2.1 h, hs.2.2 h, hs.1 h]
      refine congrArg Host.Outcome.next (hp.execute_refused hl ht rfl (State.checked_refused ?_))
      simp [firstFailure_cons, hport, hnot]
  · have hnot : q.shape.renewedByPort = false := Bool.eq_false_iff.mpr fun h =>
      let ⟨m, hm⟩ := Shape.renewedByPort_iff.mp h
      hno m hm
    refine congrArg Host.Outcome.next (hp.execute_refused hl ht rfl (State.checked_refused ?_))
    simp [firstFailure_cons, hnot]

/-- Settles O33: the amended record is the one of the statement, field by field. -/
theorem amendWritesNamedFields : Obligations.AmendWritesNamedFields := by
  intro s p f a i q q' hl ht hp hmask htrain hlease hmode hhold hrest hnotices hretrigger horphan heq
  have hq' : q.amended a (a.mode = 1) = q' := by
    rw [heq, Permit.amended, AmendFields.remaining_eq, AmendFields.blockedAge_eq]
    unfold AmendFields.names
    rw [choiceOf_named _ _ _ hretrigger, choiceOf_named _ _ _ horphan]
    rfl
  have hchecks : ∀ c ∈ [(decide (a.fieldMask.toNat < 512), Status.badRequest), (AmendFields.applies a q.shape, .badRequest),
      (decide (a.mode.toNat < 2), .badField), (AmendFields.inRanges a, .badField)], c.1 = true := by
    have happlies := (AmendFields.applies_eq a q.shape).trans (decide_eq_true ⟨htrain, hlease⟩)
    have hranges := (AmendFields.inRanges_eq a).trans (decide_eq_true ⟨hhold, hrest, hnotices, hretrigger, horphan⟩)
    simp [hmask, happlies, hmode, hranges]
  have hstate : stateByte q.state = stateByte q'.state := by rw [heq]
  rw [hstate, ← hq']
  exact congrArg Host.Outcome.next
    (hp.execute_answered ht rfl (State.checked_passes hchecks) (State.levelLaw_setPermit hl i _))

end

section
/-! SUPPORT. The fields of requests and the items of responses as bytes (R169 to R172): which bytes a field is read from, the record of a
CREATE, and the layouts of the permit record and the lines report. -/

namespace Sys2Proof.Machine

set_option Elab.async false

/-! ### Fields of requests (R169) -/

theorem byte_eq_iff {b : Byte} {n : Nat} (h : n < 256) : b = BitVec.ofNat 8 n ↔ b.toNat = n := by
  rw [← BitVec.toNat_inj, BitVec.toNat_ofNat, Nat.mod_eq_of_lt h]

theorem byte_eq_zero {b : Byte} : b = 0 ↔ b.toNat = 0 := byte_eq_iff (n := 0) (by decide)
theorem byte_eq_one {b : Byte} : b = 1 ↔ b.toNat = 1 := byte_eq_iff (n := 1) (by decide)
theorem byte_eq_two {b : Byte} : b = 2 ↔ b.toNat = 2 := byte_eq_iff (n := 2) (by decide)
theorem byte_eq_three {b : Byte} : b = 3 ↔ b.toNat = 3 := byte_eq_iff (n := 3) (by decide)

theorem word_eq_zero {w : Word} : w = 0 ↔ w.toNat = 0 := BitVec.toNat_inj.symm

theorem indexOf_eq_some {n : Nat} {b : Byte} {k : Fin n} : indexOf n b = some k ↔ b.toNat = k.val := by
  unfold indexOf
  split
  · simp [Fin.ext_iff]
  · next h => exact ⟨nofun, fun hb => absurd (hb ▸ k.isLt) h⟩

theorem indexOf_eq_none {n : Nat} {b : Byte} : indexOf n b = none ↔ n ≤ b.toNat := by
  unfold indexOf
  split <;> simp_all

theorem handleOf_eq_some {raw : RawHandle} {h : Handle} : handleOf raw = some h ↔ h.slot.val = raw.slot.toNat ∧ h.gen = raw.gen := by
  simp only [handleOf, Option.map_eq_some_iff, indexOf_eq_some]
  constructor
  · rintro ⟨i, hi, rfl⟩; exact ⟨hi.symm, rfl⟩
  · rintro ⟨hs, hg⟩; exact ⟨h.slot, hs.symm, by rw [← hg]⟩

theorem handleOf_eq_none_iff {raw : RawHandle} : handleOf raw = none ↔ 47 < raw.slot.toNat := by
  rw [handleOf, Option.map_eq_none_iff, indexOf_eq_none]; rfl

theorem edgeOf_eq_some {n : Nat} {e : Edge} : edgeOf n = some e ↔ n = edgeBits e := by
  unfold edgeOf
  split <;> cases e <;> simp_all [edgeBits]

theorem byte_testBit (b : Byte) (k : Nat) : b.getLsbD k = decide (b.toNat / 2 ^ k % 2 = 1) := Nat.testBit_eq_decide_div_mod_eq

/-- The three low bits of a byte are its remainder by 8. -/
theorem byte_and_seven (b : Byte) : (b &&& 7#8).toNat = b.toNat % 8 := by
  rw [BitVec.toNat_and]
  exact Nat.and_two_pow_sub_one_eq_mod b.toNat 3

/-- An input and edge byte is the input in its low bits and the edge above them, the other bits 0 (R169). -/
theorem inputEdgeOf_eq_some {b : Byte} {n : InputId} {e : Edge} :
    inputEdgeOf b = some (n, e) ↔ b.toNat = n.val + 16 * edgeBits e := by
  have hlt := b.isLt
  have hn := n.isLt
  have he : edgeBits e ≤ 3 := by cases e <;> decide
  simp only [inputEdgeOf, byte_testBit, ← Bool.decide_or, decide_eq_true_eq]
  split
  · next h => exact ⟨nofun, fun hb => by omega⟩
  · next h =>
    simp only [Option.bind_eq_bind, Option.bind_eq_some_iff, indexOf_eq_some, byte_and_seven, edgeOf_eq_some, Option.pure_def,
      Option.some.injEq, Prod.mk.injEq]
    constructor
    · rintro ⟨n', hn', e', he', rfl, rfl⟩; omega
    · exact fun hb => ⟨n, by omega, e, by omega, rfl, rfl⟩

theorem renewalOf_eq_some {kind input : Byte} {src : RenewalSource} : renewalOf kind input = some src ↔
    (kind = 1 ∧ src = .port) ∨ (kind = 2 ∧ ∃ n e, inputEdgeOf input = some (n, e) ∧ src = .input n e) := by
  rw [byte_eq_one, byte_eq_two, renewalOf]
  split
  · next h => simp [h, @eq_comm _ src]
  · next h => simp [h, @eq_comm _ src]
  · next h1 h2 => simp [eq_false h1, eq_false h2]

theorem renewalOf_eq_none {kind input : Byte} : renewalOf kind input = none ↔
    (kind ≠ 1 ∧ kind ≠ 2) ∨ (kind = 2 ∧ inputEdgeOf input = none) := by
  rw [ne_eq, ne_eq, byte_eq_one, byte_eq_two, renewalOf]
  split
  · next h => simp [h]
  · next h => simp [h]
  · next h1 h2 => simp [eq_false h1, eq_false h2]

theorem inRange_word_eq_none {w : Word} : inRange 1 65535 w.toNat = none ↔ w = 0 := by
  rw [← Option.not_isSome_iff_eq_none, isSome_inRange_word, decide_eq_true_eq, ne_eq, not_not]

theorem inRange_word_eq_some {w : Word} {n : Nat} : inRange 1 65535 w.toNat = some n ↔ w ≠ 0 ∧ n = w.toNat := by
  rw [inRange_eq_some, ne_eq, word_eq_zero]
  have := w.isLt
  omega

theorem maskOf_eq_some {b : Byte} {m : NoticeSet} : maskOf b = some m ↔ b.toNat < 16 ∧ m = noticesOf b := by
  unfold maskOf
  split <;> simp_all [eq_comm]

theorem maskOf_eq_none {b : Byte} : maskOf b = none ↔ 15 < b.toNat := by
  rw [← Option.not_isSome_iff_eq_none, isSome_maskOf, decide_eq_true_eq]; omega

theorem shapeOf_eq_some {c : CreateFields} {x : Shape} : shapeOf c = some x ↔
    (c.shape = 0 ∧ x = .pulse) ∨ (c.shape = 1 ∧ c.rest ≠ 0 ∧ x = .train c.rest.toNat c.repeats.toNat) ∨
      (c.shape = 2 ∧ ∃ src, renewalOf c.renewal c.renewalInput = some src ∧ x = .lease src c.minInterval.toNat) := by
  rw [byte_eq_zero, byte_eq_one, byte_eq_two, shapeOf]
  split
  · next h => simp [h, @eq_comm _ x]
  · next h => simp only [h, Option.map_eq_some_iff, inRange_word_eq_some]; simp [@eq_comm _ x]
  · next h => simp [h, @eq_comm _ x]
  · next h0 h1 h2 => simp [eq_false h0, eq_false h1, eq_false h2]

theorem shapeOf_eq_none {c : CreateFields} : shapeOf c = none ↔ 2 < c.shape.toNat ∨ (c.shape = 1 ∧ c.rest = 0) ∨
    (c.shape = 2 ∧ renewalOf c.renewal c.renewalInput = none) := by
  rw [byte_eq_one, byte_eq_two, shapeOf]
  split
  · next h => simp [h]
  · next h => simp [h, inRange_word_eq_none]
  · next h => simp [h]
  · next h0 h1 h2 => exact iff_of_true rfl (.inl (by change ¬ _ at h0 h1 h2; omega))

theorem triggerOf_eq_some {kind input : Byte} {pred : RawHandle} {x : Trigger} : triggerOf kind input pred = some x ↔
    (kind = 0 ∧ x = .soft) ∨ (kind = 1 ∧ ∃ n e, inputEdgeOf input = some (n, e) ∧ x = .input n e) ∨
      (kind = 2 ∧ ∃ h, handleOf pred = some h ∧ x = .chain (some h)) := by
  rw [byte_eq_zero, byte_eq_one, byte_eq_two, triggerOf]
  split
  · next h => simp [h, @eq_comm _ x]
  · next h => simp [h, @eq_comm _ x]
  · next h => simp [h, @eq_comm _ x]
  · next h0 h1 h2 => simp [eq_false h0, eq_false h1, eq_false h2]

theorem triggerOf_eq_none {kind input : Byte} {pred : RawHandle} : triggerOf kind input pred = none ↔
    2 < kind.toNat ∨ (kind = 1 ∧ inputEdgeOf input = none) ∨ (kind = 2 ∧ 47 < pred.slot.toNat) := by
  rw [byte_eq_one, byte_eq_two, triggerOf]
  split
  · next h => simp [h]
  · next h => simp [h]
  · next h => simp [h, handleOf_eq_none_iff]
  · next h0 h1 h2 => exact iff_of_true rfl (.inl (by change ¬ _ at h0 h1 h2; omega))

theorem gateOf_eq_some {present : Byte} {gate : RawHandle} {x : Option Handle} : gateOf present gate = some x ↔
    (present = 0 ∧ x = none) ∨ (present = 1 ∧ ∃ h, handleOf gate = some h ∧ x = some h) := by
  rw [byte_eq_zero, byte_eq_one, gateOf]
  split
  · next h => simp [h, @eq_comm _ x]
  · next h => simp [h, @eq_comm _ x]
  · next h0 h1 => simp [eq_false h0, eq_false h1]

theorem gateOf_eq_none {present : Byte} {gate : RawHandle} : gateOf present gate = none ↔
    1 < present.toNat ∨ (present = 1 ∧ 47 < gate.slot.toNat) := by
  rw [byte_eq_one, gateOf]
  split
  · next h => simp [h]
  · next h => simp [h, handleOf_eq_none_iff]
  · next h0 h1 => exact iff_of_true rfl (.inl (by change ¬ _ at h0 h1; omega))

theorem createRecord_eq_none {o : Owner} {c : CreateFields} : createRecord o c = none ↔
    shapeOf c = none ∨ indexOf 4 c.timebase = none ∨ triggerOf c.trigKind c.trigInput c.pred = none ∨
      gateOf c.gatePresent c.gate = none ∨ inRange 1 65535 c.hold.toNat = none ∨ maskOf c.mask = none ∨ c.lines = 0 := by
  constructor
  · intro hnone
    by_contra hall
    simp only [not_or, ← ne_eq, Option.ne_none_iff_exists'] at hall
    obtain ⟨⟨shape, h1⟩, ⟨tb, h2⟩, ⟨trigger, h3⟩, ⟨gate, h4⟩, ⟨hold, h5⟩, ⟨mask, h6⟩, h7⟩ := hall
    exact nomatch hnone.symm.trans (createRecord_eq_some.mpr ⟨shape, tb, trigger, gate, hold, mask, h1, h2, h3, h4, h5, h6, h7, rfl⟩)
  · intro hany
    by_contra hsome
    obtain ⟨q, hq⟩ := Option.ne_none_iff_exists'.mp hsome
    obtain ⟨shape, tb, trigger, gate, hold, mask, h1, h2, h3, h4, h5, h6, h7, -⟩ := createRecord_eq_some.mp hq
    simp [h1, h2, h3, h4, h5, h6] at hany
    exact h7 hany

/-! ### Items of responses (R169) -/

theorem byteOf_toNat (n : Nat) (h : n < 256) : (byteOf n).toNat = n := by
  rw [byteOf, BitVec.toNat_ofNat, Nat.mod_eq_of_lt h]

theorem byteOf_byte (b : Byte) : byteOf b.toNat = b := by simp [byteOf]

theorem lowByte_add_highByte (w : Word) : (lowByte w).toNat + 256 * (highByte w).toNat = w.toNat := by
  have hlow : (lowByte w).toNat = w.toNat % 256 := BitVec.toNat_setWidth 8 w
  have hhigh : (highByte w).toNat = w.toNat / 256 := by
    rw [highByte, BitVec.toNat_setWidth, BitVec.toNat_ushiftRight, Nat.shiftRight_eq_div_pow]
    have := w.isLt
    exact Nat.mod_eq_of_lt (by omega)
  omega

/-- A sum of distinct powers of two, each there or not, has exactly those bits. -/
theorem noticesByte_getLsbD (n : NoticeSet) (k : Nat) : (noticesByte n).getLsbD k =
    match k with
    | 0 => n.triggered
    | 1 => n.blocked
    | 2 => n.granted
    | 3 => n.missed
    | 4 => n.ended
    | _ => false := by
  by_cases hk : 8 ≤ k
  · rw [BitVec.getLsbD_of_ge _ _ hk]
    obtain ⟨k, rfl⟩ := Nat.exists_eq_add_of_le' hk
    rfl
  · obtain ⟨a, b, c, d, e⟩ := n
    revert a b c d e
    obtain rfl | rfl | rfl | rfl | rfl | rfl | rfl | rfl : k = 0 ∨ k = 1 ∨ k = 2 ∨ k = 3 ∨ k = 4 ∨ k = 5 ∨ k = 6 ∨ k = 7 := by omega
    all_goals decide

/-! ### The permit record (R171) -/

/-- The trigger kind (R171 byte 8). -/
def Trigger.kindByte : Trigger → Byte
  | .soft => 0
  | .input _ _ => 1
  | .chain _ => 2

/-- The trigger input and edge, and the predecessor handle (R171 bytes 9 to 11). -/
def Trigger.sourceBytes : Trigger → List Byte
  | .input n e => [inputEdgeByte n e, 0, 0]
  | .chain (some h) => [0, byteOf h.slot.val, h.gen]
  | _ => [0, 0, 0]

theorem Trigger.report_eq (x : Trigger) : x.report = x.kindByte :: x.sourceBytes := by
  cases x with
  | soft | input => rfl
  | chain h => cases h <;> rfl

/-- The record before its trigger input and edge. -/
def Permit.reportHead (h : Handle) (o : Owner) (p : Permit) : List Byte :=
  [byteOf h.slot.val, h.gen, byteOf o.port.val, o.session, p.shape.byte, lowByte p.lines, highByte p.lines, byteOf p.timebase.val,
    p.trigger.kindByte]

/-- The record's counts. -/
def Permit.reportCounts (p : Permit) : List Byte :=
  countBytes p.wait ++ countBytes p.hold ++ p.shape.counts ++ countBytes (p.blockLimit.getD 0)

/-- The record from its notice mask on. -/
def Permit.reportTail (p : Permit) : List Byte :=
  [noticesByte p.mask, RetriggerPolicy.byte p.retrigger, OrphanPolicy.byte p.orphan, stateByte p.state] ++
    countBytes p.shownRemaining ++ countBytes p.cycles ++ countBytes p.renewalAge ++ countBytes p.blockedAge ++
    [reasonByte p.endReason, noticesByte p.pending]

theorem Permit.report_eq (c : Nat) (h : Handle) {p : Permit} {o : Owner} (ho : p.owner = some o) : p.report c h =
    p.reportHead h o ++ (p.trigger.sourceBytes ++ (gateReport p.gate ++ (p.shape.sources ++ (p.reportCounts ++ p.reportTail)))) := by
  simp [Permit.report, ho, Trigger.report_eq, Permit.reportHead, Permit.reportCounts, Permit.reportTail, ownerBytes, handleBytes,
    wordBytes]

theorem length_countBytes (n : Nat) : (countBytes n).length = 2 := rfl

theorem Trigger.length_sourceBytes (x : Trigger) : x.sourceBytes.length = 3 := by
  cases x with
  | soft | input => rfl
  | chain h => cases h <;> rfl

theorem length_gateReport (x : Option Handle) : (gateReport x).length = 3 := by cases x <;> rfl

theorem Shape.length_sources (x : Shape) : x.sources.length = 3 := by
  cases x with
  | pulse | train => rfl
  | lease src => cases src <;> rfl

theorem Shape.length_counts (x : Shape) : x.counts.length = 6 := by cases x <;> rfl

theorem Permit.length_reportCounts (p : Permit) : p.reportCounts.length = 12 := by
  simp [Permit.reportCounts, length_countBytes, Shape.length_counts]

/-- Two parts in front are passed over by the sum of their lengths. -/
theorem drop_append_append {α : Type} {a b : List α} {m n : Nat} (ha : a.length = m) (hb : b.length = n) (rest : List α) :
    (a ++ (b ++ rest)).drop (m + n) = rest := by
  rw [← List.append_assoc]
  exact List.drop_left' (by rw [List.length_append, ha, hb])

theorem RetriggerPolicy.byte_eq (x : RetriggerPolicy) : RetriggerPolicy.byte x = if x = .ignore then 0 else 1 := by
  cases x <;> simp [RetriggerPolicy.byte]

theorem OrphanPolicy.byte_eq (x : OrphanPolicy) : OrphanPolicy.byte x = if x = .endRun then 0 else 1 := by
  cases x <;> simp [OrphanPolicy.byte]

theorem countBytes_zero : countBytes 0 = [0, 0] := by decide

theorem Permit.shownRemaining_bytes (p : Permit) : countBytes p.shownRemaining =
    if p.state = .waiting ∨ p.state = .active ∨ p.state = .resting then countBytes p.remaining else [0, 0] := by
  unfold Permit.shownRemaining
  cases p.state <;> simp [countBytes_zero]

/-! ### The lines report (R172) -/

/-- Among items of one length, an item stands at its number times that length. -/
theorem take_drop_flatMap {α β : Type} {f : α → List β} {k : Nat} (hf : ∀ a, (f a).length = k) (rest : List β) :
    ∀ (l : List α) (i : Nat) (hi : i < l.length), ((l.flatMap f ++ rest).drop (k * i)).take k = f l[i]
  | [], i, hi => absurd hi (Nat.not_lt_zero i)
  | a :: l, 0, _ => by
    rw [List.flatMap_cons, List.append_assoc, Nat.mul_zero, List.drop_zero]
    exact List.take_left' (hf a)
  | a :: l, i + 1, hi => by
    have hsplit : k * (i + 1) = k + k * i := by ring
    rw [List.flatMap_cons, List.append_assoc, hsplit, ← List.drop_drop, List.drop_left' (hf a)]
    exact take_drop_flatMap hf rest l i (Nat.lt_of_succ_lt_succ hi)

theorem length_flatMap_of_length {α β : Type} {f : α → List β} {k : Nat} (hf : ∀ a, (f a).length = k) (l : List α) :
    (l.flatMap f).length = k * l.length := by
  induction l with
  | nil => rfl
  | cons a l ih => rw [List.flatMap_cons, List.length_append, hf, ih, List.length_cons]; ring

theorem Line.report_flags (x : Line) : ∃ flags : Byte, x.report = [flags, byteOf x.claims, byteOf x.mismatch] ∧
    flags.getLsbD 0 = x.asserted ∧ flags.getLsbD 1 = x.condition.isLocked ∧
      (flags.getLsbD 2 = true ↔ x.condition = .locked .manual) := by
  refine ⟨_, rfl, ?_⟩
  cases x.asserted <;> cases x.condition with
  | normal => decide
  | locked c => cases c <;> decide

/-- Two bits of state below, and a nibble above. -/
theorem group_state_byte {k n : Nat} (hk : k < 4) (hn : n < 16) :
    (byteOf (k + 16 * n)).toNat % 4 = k ∧ (byteOf (k + 16 * n)).toNat / 16 = n := by
  rw [byteOf_toNat _ (by omega)]
  omega

theorem Group.length_report (c : Nat) (g : GroupId) (x : Group) : (x.report c g).length = 5 := by
  unfold Group.report
  cases x.state <;> rfl

theorem Group.report_state (c : Nat) (g : GroupId) (x : Group) : ∃ b gap : Byte,
    x.report c g = [lowByte x.members, highByte x.members, b, gap, byteOf x.queue.length] ∧
      (match x.state with
        | .free => b.toNat % 4 = 0
        | .held l => b.toNat % 4 = 1 ∧ b.toNat / 16 = l.val
        | .gap r => b.toNat % 4 = 2 ∧ gap = byteOf r) := by
  have hnibble : (Config.freeByte c (2 * g.val)).toNat % 16 < 16 := Nat.mod_lt _ (by decide)
  unfold Group.report
  cases x.state with
  | free => exact ⟨_, _, rfl, by simpa using (group_state_byte (k := 0) (by decide) hnibble).1⟩
  | held l => exact ⟨_, _, rfl, group_state_byte (by decide) l.isLt⟩
  | gap r => exact ⟨_, _, rfl, (group_state_byte (by decide) hnibble).1, rfl⟩

/-- The levels byte holds the level of each input in the input's bit. -/
theorem State.levelsByte_getLsbD (s : State) (n : InputId) : s.levelsByte.getLsbD n.val = (s.input n).level := by
  have hterm : ∀ m : InputId, (if (s.input m).level then 2 ^ m.val else 0) = 2 ^ m.val * (s.input m).level.toNat := fun m => by
    cases (s.input m).level <;> simp
  have hsum : (allInputs.map fun m => if (s.input m).level then 2 ^ m.val else 0).sum = Nat.ofBits fun m => (s.input m).level := by
    simp only [hterm, allInputs, List.finRange_succ, List.finRange_zero, List.map_cons, List.map_nil, List.sum_cons, List.sum_nil,
      Nat.ofBits, Fin.foldr_succ, Fin.foldr_zero, Fin.val_zero, Fin.val_succ]
    ring
  rw [State.levelsByte, byteOf, BitVec.getLsbD_ofNat, decide_eq_true n.isLt, Bool.true_and, hsum, Nat.testBit_ofBits_lt _ _ n.isLt]

theorem State.linesReport_eq (s : State) (c : Nat) : s.linesReport c =
    allLines.flatMap (fun l => (s.line l).report) ++ (allGroups.flatMap (fun g => (s.group g).report c g) ++
      [s.levelsByte, byteOf ((if s.quenched then 1 else 0) + (if s.latch then 2 else 0))]) := by
  rw [State.linesReport, List.append_assoc]

end Sys2Proof.Machine

open Sys2Proof Sys2Proof.Machine

set_option Elab.async false

/-- Settles O19: the record field by field, from the bytes of the request. -/
theorem createRecordHoldsRequest : Obligations.CreateRecordHoldsRequest := by
  intro o c
  refine ⟨fun q hq => ?_, ?_, fun b n e => ?_, fun src => renewalOf_eq_some⟩
  · obtain ⟨shape, tb, trigger, gate, hold, mask, hshape, htb, htrigger, hgate, hhold, hmask, hlines, rfl⟩ :=
      createRecord_eq_some.mp hq
    obtain ⟨hhold0, rfl⟩ := inRange_word_eq_some.mp hhold
    obtain ⟨hmask16, rfl⟩ := maskOf_eq_some.mp hmask
    have hhold1 : 1 ≤ c.hold.toNat := Nat.one_le_iff_ne_zero.mpr fun h => hhold0 (word_eq_zero.mpr h)
    have hended : (noticesOf c.mask).ended = false := by
      show c.mask.getLsbD 4 = false
      rw [byte_testBit, decide_eq_false_iff_not]
      omega
    rw [shapeOf_eq_some] at hshape
    rw [triggerOf_eq_some] at htrigger
    rw [gateOf_eq_some] at hgate
    refine ⟨rfl, rfl, hlines, (indexOf_eq_some.mp htb).symm, rfl, rfl, hhold1, rfl, rfl, hended, rfl, rfl, rfl, rfl, rfl, rfl, rfl,
      rfl, rfl, fun h => ?_, fun h => ?_, fun h => ?_, fun h => ?_, fun h => ?_, fun h => ?_, fun h => ?_, fun h => ?_⟩
    · simpa [h, createdRecord] using hshape
    · simpa [h, createdRecord, and_comm] using hshape
    · simpa [h, createdRecord] using hshape
    · simpa [h, createdRecord] using htrigger
    · simpa [h, createdRecord] using htrigger
    · obtain ⟨k, hk, hx⟩ : ∃ k, handleOf c.pred = some k ∧ trigger = .chain (some k) := by simpa [h, createdRecord] using htrigger
      obtain ⟨hs, hg⟩ := handleOf_eq_some.mp hk
      exact ⟨k, hs, hg, hx⟩
    · simpa [h, createdRecord] using hgate
    · obtain ⟨k, hk, hx⟩ : ∃ k, handleOf c.gate = some k ∧ gate = some k := by simpa [h, createdRecord] using hgate
      obtain ⟨hs, hg⟩ := handleOf_eq_some.mp hk
      exact ⟨k, hs, hg, hx⟩
  · have htb : indexOf 4 c.timebase = none ↔ 3 < c.timebase.toNat := indexOf_eq_none
    rw [createRecord_eq_none, shapeOf_eq_none, renewalOf_eq_none, htb, triggerOf_eq_none, gateOf_eq_none, inRange_word_eq_none,
      maskOf_eq_none]
    simp only [and_or_left, or_assoc]
    exact iff_of_eq (by ac_rfl)
  · rw [inputEdgeOf_eq_some]
    cases e <;> rfl

/-- Settles O23: the record in its parts, and each kind of field by its cases. -/
theorem permitRecordLayout : Obligations.PermitRecordLayout := by
  refine ⟨fun st => by cases st <;> rfl, fun r => ⟨rfl, by cases r <;> rfl⟩, noticesByte_getLsbD, fun n e => ?_, fun n =>
    ⟨byteOf_toNat n, fun hn => ⟨_, _, rfl, ?_⟩⟩, lowByte_add_highByte, fun c h p o ho => ?_⟩
  · have := n.isLt
    rw [inputEdgeByte, byteOf_toNat _ (by cases e <;> simp only [edgeBits] <;> omega)]
    cases e <;> rfl
  · rw [lowByte_add_highByte, BitVec.toNat_ofNat]
    split <;> omega
  · have hhead : (p.reportHead h o).length = 9 := rfl
    have h3 := Trigger.length_sourceBytes p.trigger
    have h6 := length_gateReport p.gate
    have h9 := Shape.length_sources p.shape
    have h12 := p.length_reportCounts
    rw [Permit.report_eq c h ho]
    have hgates := drop_append_append hhead h3
      (gateReport p.gate ++ (p.shape.sources ++ (p.reportCounts ++ p.reportTail)))
    have hcounts : ∀ k, (p.reportHead h o ++ (p.trigger.sourceBytes ++ (gateReport p.gate ++ (p.shape.sources ++
        (p.reportCounts ++ p.reportTail))))).drop (18 + k) = (p.reportCounts ++ p.reportTail).drop k := fun k => by
      rw [← List.drop_drop, show 18 = 9 + 3 + (3 + 3) from rfl, ← List.drop_drop, hgates, drop_append_append h6 h9]
    refine ⟨?_, (List.take_left' hhead).trans rfl, ?_, ?_, ?_, ?_, ?_⟩
    · simp [hhead, h3, h6, h9, h12]
      rfl
    · rw [List.drop_left' hhead, List.take_left' h3]
      unfold Trigger.sourceBytes
      cases p.trigger with
      | soft | input => rfl
      | chain x => cases x <;> rfl
    · rw [show 12 = 9 + 3 from rfl, hgates, List.take_left' h6]
      cases p.gate <;> rfl
    · rw [show 15 = 9 + 3 + 3 from rfl, ← List.drop_drop, hgates, List.drop_left' h6, List.take_left' h9]
      cases p.shape with
      | pulse | train => rfl
      | lease src m => cases src <;> rfl
    · rw [hcounts 0, List.drop_zero, List.take_left' h12]
      rw [Permit.reportCounts]
      cases p.shape <;> simp [Shape.counts, countBytes_zero]
    · rw [hcounts 12, List.drop_left' h12, ← Permit.shownRemaining_bytes, Permit.reportTail, RetriggerPolicy.byte_eq,
        OrphanPolicy.byte_eq]

/-- Settles O24: the lines report in its parts. -/
theorem linesReportLayout : Obligations.LinesReportLayout := by
  intro s c
  have hline : ∀ l : LineId, (s.line l).report.length = 3 := fun _ => rfl
  have hgroup : ∀ g : GroupId, ((s.group g).report c g).length = 5 := fun g => Group.length_report c g _
  have hlines : (allLines.flatMap fun l => (s.line l).report).length = 48 := length_flatMap_of_length hline allLines
  have hgroups : (allGroups.flatMap fun g => (s.group g).report c g).length = 40 := length_flatMap_of_length hgroup allGroups
  rw [State.linesReport_eq]
  refine ⟨by simp [hlines, hgroups], fun l => ?_, fun g => ?_, ⟨s.levelsByte, ?_, s.levelsByte_getLsbD⟩⟩
  · obtain ⟨flags, hreport, hflags⟩ := (s.line l).report_flags
    refine ⟨flags, ?_, hflags⟩
    rw [← hreport, take_drop_flatMap hline _ allLines l.val (by simp [allLines])]
    simp [allLines]
  · obtain ⟨b, gap, hreport, hstate⟩ := (s.group g).report_state c g
    refine ⟨b, gap, ?_, hstate⟩
    rw [← hreport, ← List.drop_drop, List.drop_left' hlines, take_drop_flatMap hgroup _ allGroups g.val (by simp [allGroups])]
    simp [allGroups]
  · exact drop_append_append hlines hgroups _

end

section
/-! SUPPORT. The requests of sessions and of the permit table: OPEN, STATUS and SET_QUOTA (chapter 9), CREATE, RETIRE and the reports
(chapter 1). -/

namespace Sys2Proof.Machine

set_option Elab.async false

/-! ### Quotas (R149) -/

theorem State.quotas_eq (s : State) : s.quotas = [0, 1, 2].map fun k : Port => byteOf (s.port k).quota := rfl

/-- The three quotas with one of them written. -/
theorem State.quotas_setPort (s : State) (q : Port) (b : Byte) :
    (s.setPort q { s.port q with quota := b.toNat }).quotas =
      [0, 1, 2].map fun k : Port => if k = q then b else byteOf (s.port k).quota := by
  rw [State.quotas_eq]
  refine List.map_congr_left fun k _ => ?_
  rw [State.port_setPort]
  by_cases h : q = k
  · subst h; simp [byteOf_byte]
  · simp [h, Ne.symm h]

theorem firstFailure_supervisor {s : State} {p : Port} (h : s.Supervisor p) : firstFailure (s.supervisorChecks p) = none :=
  firstFailure_eq_none.mpr h.checks

theorem inRange_byte_eq_some {lo hi : Nat} {n : Nat} (h : lo ≤ n ∧ n ≤ hi) : inRange lo hi n = some n := if_pos h

theorem inRange_eq_none {lo hi n : Nat} : inRange lo hi n = none ↔ ¬(lo ≤ n ∧ n ≤ hi) := by
  unfold inRange
  split <;> simp_all

/-- SET_QUOTA writes a quota in range, not below the owned count, with the sum at most 48 (R149). -/
theorem State.runSetQuota_eq {s : State} {p q : Port} {a b : Byte} (hsup : s.Supervisor p) (ha : a.toNat = q.val) :
    s.runSetQuota p a b =
      if b.toNat ≤ 48 ∧ (s.port q).owned ≤ b.toNat ∧ s.quotaSum q b.toNat ≤ 48 then
        ⟨s.setPort q { s.port q with quota := b.toNat }, .ok, (s.setPort q { s.port q with quota := b.toNat }).quotas⟩
      else ⟨s, .badField, s.quotas⟩ := by
  unfold State.runSetQuota
  rw [firstFailure_supervisor hsup, indexOf_eq_some.mpr ha]
  by_cases hb : b.toNat ≤ 48
  · rw [inRange_byte_eq_some ⟨Nat.zero_le _, hb⟩]
    dsimp only
    by_cases hfit : (s.port q).owned ≤ b.toNat ∧ s.quotaSum q b.toNat ≤ 48
    · rw [if_neg (by omega), if_pos ⟨hb, hfit⟩]; rfl
    · rw [if_pos (by omega), if_neg fun h => hfit h.2]
  · rw [inRange_eq_none.mpr fun h => hb h.2, if_neg fun h => hb h.1]

/-! ### CREATE (R10, R15) -/

/-- The search for an EMPTY slot ends at the lowest one. -/
theorem State.emptySlot_eq {s : State} {i : SlotId} (hi : s.permit i = none) (hlow : ∀ j : SlotId, j < i → (s.permit j).isSome = true) :
    s.emptySlot = some i := by
  rw [State.emptySlot, List.find?_eq_some_iff_append]
  refine ⟨by simp [hi], ?_⟩
  obtain ⟨before, after, hsplit⟩ := List.append_of_mem (List.mem_finRange i)
  refine ⟨before, after, hsplit, fun j hj => ?_⟩
  have hsorted := List.pairwise_lt_finRange 48
  rw [hsplit, List.pairwise_append] at hsorted
  simpa using hlow j (hsorted.2.2 j hj i List.mem_cons_self)

theorem Trigger.pred_eq_some {x : Trigger} {h : Handle} : x.pred = some h ↔ x = .chain (some h) := by
  cases x <;> simp [Trigger.pred]

/-! ### RETIRE (R2) -/

theorem State.leaveOwner_keeps (s : State) (h : Handle) (q : Permit) : (s.leaveOwner h q).lines = s.lines ∧
    (s.leaveOwner h q).groups = s.groups ∧ (s.leaveOwner h q).freeCount = s.freeCount := by
  unfold State.leaveOwner
  cases q.owner <;> exact ⟨rfl, rfl, rfl⟩

theorem State.referenceFailure_of_owned {s : State} {p : Port} {x : Option Handle}
    (h : ∀ k, x = some k → ∃ r, s.resolve k = some r ∧ s.ownedBy p r = true) : s.referenceFailure p x = none := by
  cases x with
  | none => rfl
  | some k =>
    obtain ⟨r, hr, hown⟩ := h k rfl
    simp [State.referenceFailure, hr, hown]

section Retire
variable {s : State} {i : SlotId} {q : Permit} (hq : s.permit i = some q)
include hq

theorem State.retire_eq : s.retire i =
    (((s.leaveOwner (s.handle i) q).mapSlots fun _ x => { x with permit := x.permit.map (Permit.dropReference (s.handle i)) }).setSlot i
      { gen := (s.handle i).gen + 1, permit := none }).withdraw (Due.isFor (s.handle i)) := by
  simp only [State.retire, hq]

theorem State.retire_keeps : (s.retire i).lines = s.lines ∧ (s.retire i).groups = s.groups ∧ (s.retire i).freeCount = s.freeCount := by
  rw [State.retire_eq hq]
  simp only [State.withdraw, State.setSlot, State.mapSlots, s.leaveOwner_keeps (s.handle i) q, and_self]

end Retire

/-- Retirement takes an orphan's references to the permit that goes (R2, R7). -/
theorem Permit.dropReference_eq (h : Handle) (r : Permit) : Permit.dropReference h r =
    if r.owner = none then
      { r with
        trigger := if r.trigger = .chain (some h) then .chain none else r.trigger
        gate := if r.gate = some h then none else r.gate }
    else r := by
  unfold Permit.dropReference
  cases ho : r.owner <;> simp

/-! ### LIST (R18) -/

theorem State.listed_eq (s : State) (p : Port) (i : SlotId) : s.listed p i =
    (s.permit i).any fun q => p = 0 || q.owner = some { port := p, session := (s.port p).session } := by
  unfold State.listed
  cases s.permit i <;> rfl

theorem byteOf_nextStart (page : List SlotId) :
    byteOf (nextStart page) = if page.length = 12 then byteOf ((page.getLastD 47).val + 1) else 48 := by
  unfold nextStart
  split
  · next h =>
    have hne : page ≠ [] := by rintro rfl; simp at h
    rw [List.getLast?_eq_some_getLast hne, List.getLastD_eq_getLast?, List.getLast?_eq_some_getLast hne]
    rfl
  · rfl

end Sys2Proof.Machine

open Sys2Proof Sys2Proof.Machine

set_option Elab.async false

/-- Settles O15: OPEN by the port's session, STATUS, and SET_QUOTA by its range. -/
theorem sessionRequestsAnswer : Obligations.SessionRequestsAnswer := by
  intro s p f hl
  refine ⟨fun ht hclosed n hn => ?_, fun ht hopen => ?_, fun ht => ?_, fun a b q ht hsup ha => ⟨fun hfit => ?_, fun hno => ?_⟩⟩
  · have hn' : nextSession (s.port p).session = n := hn.symm
    refine congrArg Host.Outcome.next (State.execute_answered (hl.of_lines fun _ => rfl) ht (congrArg some ?_))
    rw [State.runOpen, hclosed, hn']
    rfl
  · refine congrArg Host.Outcome.next (State.execute_refused hl ht (congrArg some ?_))
    rw [State.runOpen, hopen]
    rfl
  · exact congrArg Host.Outcome.next (State.execute_answered hl ht rfl)
  · refine congrArg Host.Outcome.next (State.execute_answered (hl.of_lines fun _ => rfl) ht (congrArg some ?_))
    refine ((State.runSetQuota_eq hsup ha).trans (if_pos hfit)).trans ?_
    rw [State.quotas_setPort]
  · refine congrArg Host.Outcome.next (State.execute_answered hl ht (congrArg some ?_))
    exact (State.runSetQuota_eq hsup ha).trans (if_neg hno)

/-- Settles O18: with every check passed, CREATE places its record in the slot that the search finds. -/
theorem createTakesLowestEmptySlot : Obligations.CreateTakesLowestEmptySlot := by
  intro s p f c i q hl ht hopen hi hlow hquota hrec hgrouped hpred hgate
  have hlone : ¬ 1 < s.groupedCount q.lines := by rw [(createRecord_references hrec).1]; omega
  have hpred' := s.referenceFailure_of_owned (p := p) fun k hk => hpred k (Trigger.pred_eq_some.mp hk)
  refine congrArg Host.Outcome.next (State.execute_answered (t := s.place p i q) (hl.of_lines fun _ => rfl) ht (congrArg some ?_))
  unfold State.runCreate
  simp only [hopen, State.emptySlot_eq hi hlow, if_neg (Nat.not_le.mpr hquota), hrec, if_neg hlone, hpred',
    s.referenceFailure_of_owned hgate]
  rfl

/-- Settles O21: what retirement leaves of each component. -/
theorem retireFreesSlot : Obligations.RetireFreesSlot := by
  intro s p f h i q hl ht hp hstate hfree
  have hq := hp.permit
  have howner : q.owner = some { port := p, session := (s.port p).session } := hp.2.2
  have hchecks : ∀ c ∈ [(!q.state.inService, Status.wrongState), (!s.referenced p i, .referenced)], c.1 = true := by
    have hout := (PState.not_inService_eq q.state).trans (decide_eq_true hstate)
    have hloose := (State.not_referenced_eq s p i).trans (decide_eq_true fun j hj r hr hown => hfree j r hj hr hown)
    simp [hout, hloose]
  obtain ⟨hlines, hgroups, hcount⟩ := State.retire_keeps hq
  refine ⟨s.retire i, congrArg Host.Outcome.next (hp.execute_answered ht rfl (State.checked_passes hchecks)
      (hl.of_lines fun l => s.line_retire i l)), s.moves_retire i, hlines, hgroups, hcount, State.due_retire hq, ?_, ?_, fun j hj => ⟨?_, ?_⟩,
    ?_, fun p' hp' => ?_⟩
  · rw [State.permit_retire_any hq, if_pos rfl]
  · rw [State.slot_retire_any hq, if_pos rfl]
  · exact State.gen_retire_of_ne (Ne.symm hj)
  · rw [State.permit_retire_any hq, if_neg (Ne.symm hj), funext (Permit.dropReference_eq (s.handle i))]
  · rw [State.port_retire hq, howner, if_pos (Option.map_some ..)]
  · rw [State.port_retire hq, howner, if_neg]
    exact fun h => hp' (Option.some.inj h).symm

/-- Settles O22: each report is its own answer. -/
theorem reportsChangeNothing : Obligations.ReportsChangeNothing := by
  intro s p f hl
  refine ⟨fun h i q ht hp => ?_, fun start page ht hopen hstart hpage => ?_, fun c i q hq => ?_, fun start ht => ⟨fun hclosed => ?_,
    fun hopen hstart => ?_⟩, fun ht => ?_⟩
  · exact congrArg Host.Outcome.next (hp.execute_answered ht rfl rfl hl)
  · have hpage' : s.listPage p start.toNat = page := by
      rw [hpage, State.listPage]
      simp only [State.listed_eq]
    refine congrArg Host.Outcome.next (State.execute_answered hl ht (congrArg some ((State.checked_passes ?_).trans ?_)))
    · simp [hopen, hstart]
    · rw [hpage']
      dsimp only
      rw [byteOf_nextStart]
      rfl
  · unfold State.listEntry
    rw [hq]
    refine ⟨Config.freeByte c i.val, ?_⟩
    dsimp only
    cases q.owner <;> rfl
  · refine congrArg Host.Outcome.next (State.execute_refused hl ht (congrArg some (State.checked_refused ?_)))
    simp [firstFailure_cons, hclosed]
  · refine congrArg Host.Outcome.next (State.execute_refused hl ht (congrArg some (State.checked_refused ?_)))
    simp [firstFailure_cons, hopen, Nat.not_lt.mpr hstart]
  · exact congrArg Host.Outcome.next (State.execute_answered hl ht rfl)

end

section
/-! SUPPORT. The supervisor requests and their checks (R144), the settings of lines and groups (chapters 5 and 6), and the ticks of the
sense check (R103). -/

namespace Sys2Proof.Machine

set_option Elab.async false

/-! ### Requests of the supervisor (R144) -/

section Supervisor
variable {s t : State} {p : Port} {f : Frame} {r : Request} {st : Status} {data : List Byte} {go : Reply}
  {run : Port → Request → Option Reply}

/-- The role check and the session check refuse before the request's own checks. -/
theorem State.execute_unsupervised (hl : s.LevelLaw) (ht : s.Turn p f r)
    (hr : run p r = some (s.checked (s.supervisorChecks p) go)) (hf : firstFailure (s.supervisorChecks p) = some st) :
    s.execute run = s.answered p f st [] :=
  State.execute_refused hl ht (hr.trans (congrArg some (State.checked_refused hf)))

/-- With the role check and the session check passed, the row stores what the request answers. -/
theorem State.Supervisor.execute_answered (hsup : s.Supervisor p) (ht : s.Turn p f r)
    (hr : run p r = some (s.checked (s.supervisorChecks p) go)) (hg : go = ⟨t, st, data⟩) (hl : t.LevelLaw) :
    s.execute run = t.answered p f st data :=
  State.execute_answered hl ht (hr.trans (congrArg some ((State.checked_passes hsup.checks).trans hg)))

theorem State.Supervisor.execute_settled (hsup : s.Supervisor p) (ht : s.Turn p f r)
    (hr : run p r = some (s.checked (s.supervisorChecks p) go)) (hg : go = ⟨t, st, data⟩) :
    s.execute run = t.settleLevels.answered p f st data :=
  State.execute_settled ht (hr.trans (congrArg some ((State.checked_passes hsup.checks).trans hg)))

end Supervisor

/-! ### What the checks of the model look at -/

theorem State.slotsWith_isEmpty_iff {s : State} {test : Permit → Bool} :
    (s.slotsWith test).isEmpty = true ↔ ∀ i : SlotId, ∀ q ∈ s.permit i, test q = false := by
  rw [List.isEmpty_iff, List.eq_nil_iff_forall_not_mem]
  simp only [State.mem_slotsWith, not_exists, not_and, Bool.not_eq_true, Option.mem_def]

theorem State.inServiceOn_isEmpty_iff {s : State} {l : LineId} : (s.inServiceOn l).isEmpty = true ↔
    ∀ i : SlotId, ∀ q ∈ s.permit i, q.state.inService = true → q.names l = false := by
  simp only [State.inServiceOn, State.slotsWith_isEmpty_iff, Bool.and_eq_false_imp]

/-- Two sets of lines meet where they share a line. -/
theorem lineSet_and_ne_zero {a b : LineSet} : a &&& b ≠ 0 ↔ ∃ l : LineId, a.getLsbD l.val = true ∧ b.getLsbD l.val = true := by
  constructor
  · intro hne
    by_contra hno
    refine hne (BitVec.eq_of_getLsbD_eq fun k hk => ?_)
    rw [BitVec.getLsbD_and, BitVec.ofNat_eq_ofNat, BitVec.getLsbD_zero]
    by_contra hbit
    exact hno ⟨⟨k, hk⟩, Bool.and_eq_true_iff.mp (Bool.not_eq_false _ ▸ hbit)⟩
  · rintro ⟨l, ha, hb⟩ hzero
    have hbit : (a &&& b).getLsbD l.val = true := by rw [BitVec.getLsbD_and, ha, hb]; rfl
    rw [hzero] at hbit
    simp at hbit

theorem State.anyInServiceOn_eq_false_iff {s : State} {ls : LineSet} : s.anyInServiceOn ls = false ↔
    ∀ i : SlotId, ∀ q ∈ s.permit i, q.state.inService = true → ∀ l : LineId, q.names l = true → ls.getLsbD l.val = false := by
  rw [State.anyInServiceOn, Bool.not_eq_false', State.slotsWith_isEmpty_iff]
  refine forall₃_congr fun i q _ => ?_
  rw [Bool.and_eq_false_imp, decide_eq_false_iff_not, lineSet_and_ne_zero]
  simp only [Permit.names, not_exists, not_and, Bool.not_eq_true]

theorem State.inOtherGroup_eq_false_iff {s : State} {g : GroupId} {ls : LineSet} : s.inOtherGroup g ls = false ↔
    ∀ g' : GroupId, g' ≠ g → ∀ l : LineId, ls.getLsbD l.val = true → (s.group g').has l = false := by
  rw [State.inOtherGroup, List.any_eq_false]
  refine forall_congr' fun g' => ?_
  have hmeet := lineSet_and_ne_zero (a := (s.group g').members) (b := ls)
  simp only [allGroups, List.mem_finRange, true_implies, Bool.and_eq_true, decide_eq_true_eq, hmeet, not_and, not_exists,
    Bool.not_eq_true, Group.has]
  exact imp_congr_right fun _ => forall_congr' fun l => by cases ls.getLsbD l.val <;> simp

/-! ### Settings of lines and groups (R86 to R90) -/

theorem choiceOf_bool {b : Byte} (h : b.toNat < 2) : choiceOf false true b = some (decide (b = 1)) := by
  rw [choiceOf_eq _ _ h]
  obtain h0 | h1 : b.toNat = 0 ∨ b.toNat = 1 := by omega
  · rw [byte_eq_zero.mpr h0]; rfl
  · rw [byte_eq_one.mpr h1]; rfl

theorem dividerOf_lt {b : Byte} {v : Divider} (h : dividerOf b = some v) : b.toNat < 4 := by
  unfold dividerOf at h
  split at h
  case h_5 => cases h
  all_goals omega

theorem isSome_indexOf (n : Nat) (b : Byte) : (indexOf n b).isSome = decide (b.toNat < n) := by
  unfold indexOf
  split <;> simp_all

/-- Every setting that a SET_LINE asks for is in range (R86 check 3). -/
theorem isSome_lineSettings (x : Line) (pol chk tol tb spol : Byte) : (lineSettings x pol chk tol tb spol).isSome =
    decide (pol.toNat < 2 ∧ chk.toNat < 2 ∧ tol ≠ 0 ∧ tb.toNat < 4 ∧ spol.toNat < 2) := by
  have htol : (inRange 1 255 tol.toNat).isSome = decide (tol ≠ 0) := by
    have := tol.isLt
    rw [Bool.eq_iff_iff, inRange, Option.isSome_ite, decide_eq_true_iff, ne_eq, byte_eq_zero]
    omega
  have h1 := isSome_choiceOf Polarity.activeHigh .activeLow pol
  have h2 := isSome_choiceOf false true chk
  have h4 := isSome_indexOf 4 tb
  have h5 := isSome_choiceOf SensePolarity.same .inverted spol
  simp only [Bool.decide_and, ← h1, ← h2, ← htol, ← h4, ← h5]
  unfold lineSettings
  cases choiceOf Polarity.activeHigh .activeLow pol <;> simp
  cases choiceOf false true chk <;> simp
  cases inRange 1 255 tol.toNat <;> simp
  cases indexOf 4 tb <;> simp
  cases choiceOf SensePolarity.same .inverted spol <;> simp

/-- The line with the settings that a SET_LINE asks for (R87). -/
theorem lineSettings_of_inRange (x : Line) {pol chk tol tb spol : Byte} {k : TimebaseId} (hpol : pol.toNat < 2)
    (hchk : chk.toNat < 2) (htol : 1 ≤ tol.toNat) (htb : tb.toNat = k.val) (hspol : spol.toNat < 2) :
    lineSettings x pol chk tol tb spol = some { x with
      polarity := if pol = 0 then .activeHigh else .activeLow, senseOn := decide (chk = 1), tolerance := tol.toNat
      checkTimebase := k, sensePolarity := if spol = 0 then .same else .inverted, mismatch := 0 } := by
  have htol255 : tol.toNat ≤ 255 := Nat.le_of_lt_succ tol.isLt
  simp only [lineSettings, choiceOf_eq _ _ hpol, choiceOf_bool hchk, inRange_byte_eq_some ⟨htol, htol255⟩, indexOf_eq_some.mpr htb,
    choiceOf_eq _ _ hspol, Option.bind_eq_bind, Option.bind_some, Option.pure_def]

theorem membersOf_of {w : Word} (h : lineCount w = 0 ∨ (2 ≤ lineCount w ∧ lineCount w ≤ 4)) : membersOf w = some w := if_pos h

theorem isSome_membersOf (w : Word) :
    (membersOf w).isSome = decide (lineCount w = 0 ∨ (2 ≤ lineCount w ∧ lineCount w ≤ 4)) := by
  rw [Bool.eq_iff_iff, membersOf, Option.isSome_ite, decide_eq_true_iff]

theorem Due.not_isForLine (l : LineId) (d : Due) : (!d.isForLine l) = decide (∀ j, d ≠ .lineTick j l) := by
  rw [Bool.eq_iff_iff, decide_eq_true_iff]
  cases d <;> simp [Due.isForLine]

theorem Due.not_isForGroup (g : GroupId) (d : Due) : (!d.isForGroup g) = decide (∀ j, d ≠ .groupTick j g) := by
  rw [Bool.eq_iff_iff, decide_eq_true_iff]
  cases d <;> simp [Due.isForGroup]

/-- A write to a line that leaves its claims and its level keeps the lines settled. -/
theorem State.levelLaw_setLine {s : State} (hl : s.LevelLaw) {l : LineId} {x : Line}
    (hx : x.claims = (s.line l).claims ∧ x.asserted = (s.line l).asserted) : (s.setLine l x).LevelLaw := by
  intro l'
  rw [State.line_setLine]
  split
  · next h => rw [hx.1, hx.2]; exact hl l
  · exact hl l'

/-! ### The sense check (R103) -/

theorem Line.pin_eq (x : Line) : x.pin = (x.asserted ^^ decide (x.polarity = .activeLow)) := by
  unfold Line.pin
  cases x.polarity <;> simp

theorem Line.expectedSense_eq (x : Line) : x.expectedSense = (x.pin ^^ decide (x.sensePolarity = .inverted)) := by
  unfold Line.expectedSense
  cases x.sensePolarity <;> simp

theorem Condition.isLocked_eq_false {c : Condition} : c.isLocked = false ↔ c = .normal := by
  cases c <;> simp [Condition.isLocked]

theorem Line.checking_iff {x : Line} : x.checking = true ↔ x.senseOn = true ∧ x.condition = .normal := by
  rw [Line.checking, Bool.and_eq_true, Bool.not_eq_true', Condition.isLocked_eq_false]

theorem State.takeLineTick_eq {s : State} {l : LineId} (h : Due.lineTick (s.line l).checkTimebase l ∈ s.due) :
    s.takeLineTick l = some { s with due := s.due.erase (.lineTick (s.line l).checkTimebase l) } := State.takeDue_mem h

/-- The sense check's tick is the comparison, once the tick is taken. -/
theorem exec_senseCheck {s : State} {l : LineId} (hlow : s.resetLow = false) (h : Due.lineTick (s.line l).checkTimebase l ∈ s.due)
    (high : Bool) : exec (.senseCheck l high) s =
      .next (State.senseTick { s with due := s.due.erase (.lineTick (s.line l).checkTimebase l) } l high).settleLevels := by
  show Host.Outcome.next (s.outOfReset _) = _
  rw [State.outOfReset_high hlow, State.takeLineTick_eq h]

theorem exec_senseLock {s : State} {l : LineId} (hlow : s.resetLow = false) (h : Due.lineTick (s.line l).checkTimebase l ∈ s.due)
    {high : Bool} (hlock : (s.line l).locksOn high = true) : exec (.senseLock l high) s =
      .next (State.senseTick { s with due := s.due.erase (.lineTick (s.line l).checkTimebase l) } l high).settleLevels := by
  show Host.Outcome.next (s.outOfReset _) = _
  rw [State.outOfReset_high hlow, State.takeLineTick_eq h]
  dsimp only
  rw [if_pos hlock]

theorem Line.locksOn_of {x : Line} {high : Bool} (hon : x.senseOn = true) (hn : x.condition = .normal) (hne : high ≠ x.expectedSense)
    (htol : x.mismatch + 1 = x.tolerance) : x.locksOn high = true := by
  simp [Line.locksOn, Line.checking_iff.mpr ⟨hon, hn⟩, hne, htol]

/-! ### The timebases' checks (R125, R126) -/

theorem State.sourceRuns_iff {s : State} {x : TimebaseSource} :
    s.sourceRuns x = true ↔ ∀ j, x = .tick j → (s.timebase j).running = true := by
  cases x <;> simp [State.sourceRuns]

theorem State.hasDependent_eq_false_iff {s : State} {k : TimebaseId} : s.hasDependent k = false ↔
    (∀ i : SlotId, ∀ q ∈ s.permit i, q.timebase = k → q.state.inService = false) ∧
      (∀ g : GroupId, (s.group g).timebase = k → (s.group g).state.isGap = false) ∧
      (∀ l : LineId, (s.line l).checkTimebase = k → (s.line l).senseOn = false) ∧
      ∀ j : TimebaseId, (s.timebase j).source = .tick k → (s.timebase j).running = false := by
  simp only [State.hasDependent, Bool.or_eq_false_iff, Bool.not_eq_false', State.slotsWith_isEmpty_iff, List.any_eq_false,
    allGroups, allLines, allTimebases, List.mem_finRange, true_implies, Bool.and_eq_true, decide_eq_true_eq, not_and,
    Bool.not_eq_true, and_assoc, Bool.and_eq_false_imp]

end Sys2Proof.Machine

open Sys2Proof Sys2Proof.Machine

set_option Elab.async false

/-- Settles O39: each request writes its line or group, and withdraws the ticks due there. -/
theorem lineAndGroupSettingsAreWritten : Obligations.LineAndGroupSettingsAreWritten := by
  intro s p f hl hsup
  refine ⟨fun b pol chk tol tb spol l k ht hb hpol hchk htol htb hspol hfree => ?_, fun b l c ht hb hc => ?_,
    fun b gap tb ms g k ht hb hms htb hother hstate hfree => ?_⟩
  · have hempty : (s.inServiceOn l).isEmpty = true := State.inServiceOn_isEmpty_iff.mpr fun i q hq hin =>
      Bool.eq_false_iff.mpr fun hn => absurd hin (by rw [hfree i q hq hn]; exact Bool.false_ne_true)
    refine congrArg Host.Outcome.next (hsup.execute_answered ht rfl ?_ ?_)
    · rw [indexOf_eq_some.mpr hb]
      dsimp only
      rw [lineSettings_of_inRange _ hpol hchk htol htb hspol]
      dsimp only
      rw [State.checked_passes (by simp [hempty]), ← funext (Due.not_isForLine l)]
      rfl
    · exact State.levelLaw_setLine hl ⟨rfl, rfl⟩
  · refine congrArg Host.Outcome.next (hsup.execute_answered ht rfl ?_ (State.levelLaw_setLine hl ⟨rfl, rfl⟩))
    rw [indexOf_eq_some.mpr hb]
    dsimp only
    rw [State.checked_passes (by simp [hc, Condition.isLocked])]
    rfl
  · have hin : s.inOtherGroup g ms = false := State.inOtherGroup_eq_false_iff.mpr fun g' hg' l => hother g' l hg'
    have hold : s.anyInServiceOn (s.group g).members = false := State.anyInServiceOn_eq_false_iff.mpr fun i q hq his l hn =>
      Bool.eq_false_iff.mpr fun hm => absurd his (by rw [hfree i q l hq hn (.inl hm)]; exact Bool.false_ne_true)
    have hnew : s.anyInServiceOn ms = false := State.anyInServiceOn_eq_false_iff.mpr fun i q hq his l hn =>
      Bool.eq_false_iff.mpr fun hm => absurd his (by rw [hfree i q l hq hn (.inr hm)]; exact Bool.false_ne_true)
    refine congrArg Host.Outcome.next (hsup.execute_answered ht rfl ?_ (hl.of_lines fun _ => rfl))
    rw [indexOf_eq_some.mpr hb, membersOf_of hms, indexOf_eq_some.mpr htb]
    dsimp only
    rw [State.checked_passes (by simp [hin, hstate, hold, hnew]), ← funext (Due.not_isForGroup g)]
    rfl

/-- Settles O41: the comparison by the check, the condition and the level. -/
theorem senseCheckCompares : Obligations.SenseCheckCompares := by
  intro s l high s0 hl hlow hdue hs0
  have hline : s0.line l = s.line l := by rw [hs0]; rfl
  have hl0 : s0.LevelLaw := by rw [hs0]; exact hl
  have hexec : exec (.senseCheck l high) s = .next (s0.senseTick l high).settleLevels := by rw [exec_senseCheck hlow hdue, hs0]
  refine ⟨Line.pin_eq _, Line.expectedSense_eq _, fun hoff => ?_, fun hon hn => ?_⟩
  · have hno : ¬ (s.line l).checking = true := fun h => by
      obtain ⟨h1, h2⟩ := Line.checking_iff.mp h
      obtain h | h := hoff
      · rw [h1] at h; cases h
      · exact h h2
    rw [hexec, State.senseTick, hline, if_neg hno, State.settleLevels_eq hl0]
  · have hyes : (s.line l).checking = true := Line.checking_iff.mpr ⟨hon, hn⟩
    refine ⟨fun hmatch => ?_, fun hne htol => ?_, fun hne htol => ?_⟩
    · rw [hexec, State.senseTick, hline, if_pos hyes, if_pos hmatch,
        State.settleLevels_eq (State.levelLaw_setLine hl0 (by rw [hline]; exact ⟨rfl, rfl⟩))]
    · rw [hexec, State.senseTick, hline, if_pos hyes, if_neg hne, if_neg htol,
        State.settleLevels_eq (State.levelLaw_setLine hl0 (by rw [hline]; exact ⟨rfl, rfl⟩))]
    · rw [hexec, exec_senseLock hlow hdue (Line.locksOn_of hon hn hne htol), hs0]

/-- Settles O50: each request by its role and session, and then by its own checks. -/
theorem supervisorRequestsCheckInOrder : Obligations.SupervisorRequestsCheckInOrder := by
  intro s p f st b hl
  refine ⟨fun r ht hr hf => ?roles, fun n ht hf => ?quota, fun hsup => ⟨fun kind arg w ht hbad => ?setTimebase, fun hb ht => ?startBad,
    fun hb ht => ?stopBad, fun k hb => ⟨fun ht hf => ?start, fun ht hf => ?stop⟩, fun dep div ht hbad => ?setInput,
    fun pol chk tol tb spol ht hf => ?setLine, fun ms gap tb g hb ht hf => ?setGroup, fun ms gap tb hb ht => ?setGroupBad,
    fun ht hf => ?lockLine, fun ht hf => ?clearLine, fun ht hb => ?ackLine⟩⟩
  case roles =>
    rcases hr with rfl | rfl | rfl | rfl | rfl | rfl | rfl | rfl | rfl | ⟨kind, arg, w, rfl⟩ | ⟨dep, div, rfl⟩ |
      ⟨pol, chk, tol, tb, spol, rfl⟩ | ⟨ms, gap, tb, rfl⟩
    all_goals exact congrArg Host.Outcome.next (State.execute_unsupervised hl ht rfl hf)
  case quota =>
    refine congrArg Host.Outcome.next (State.execute_answered hl ht (congrArg some ?_))
    unfold State.runSetQuota
    by_cases hp : p = 0
    case neg =>
      rw [firstFailure_cons, if_neg (by simpa using hp)] at hf
      cases hf
      simp [State.supervisorChecks, firstFailure_cons, hp, State.quotas_eq]
    by_cases hopen : (s.port p).isOpen = true
    case neg =>
      rw [firstFailure_cons, if_pos (by simpa using hp), firstFailure_cons, if_neg hopen] at hf
      cases hf
      simp [State.supervisorChecks, firstFailure_cons, hp, hp ▸ hopen, State.quotas_eq]
    rw [firstFailure_of_passes (decide_eq_true hp), firstFailure_of_passes hopen, firstFailure_cons] at hf
    split at hf
    · cases hf
    · next hb =>
      cases hf
      rw [firstFailure_supervisor ⟨hp, hp ▸ hopen⟩, indexOf_eq_none.mpr (by simpa using hb)]
      rfl
  case setTimebase =>
    refine congrArg Host.Outcome.next (hsup.execute_answered ht rfl ?_ hl)
    obtain hb | ⟨k, hb, hsrc⟩ := hbad
    · rw [indexOf_eq_none.mpr hb]; rfl
    · rw [indexOf_eq_some.mpr hb]
      dsimp only
      rw [hsrc]; rfl
  case startBad =>
    refine congrArg Host.Outcome.next (hsup.execute_answered ht rfl ?_ hl)
    rw [indexOf_eq_none.mpr hb]; rfl
  case stopBad =>
    refine congrArg Host.Outcome.next (hsup.execute_answered ht rfl ?_ hl)
    rw [indexOf_eq_none.mpr hb]; rfl
  case start =>
    refine congrArg Host.Outcome.next (hsup.execute_answered ht rfl ?_ hl)
    rw [indexOf_eq_some.mpr hb]
    dsimp only
    have hbad : ((s.timebase k).running || !s.sourceRuns (s.timebase k).source) = true ∧ st = .wrongState := by
      rw [← Bool.decide_congr State.sourceRuns_iff] at hf
      cases hrun : (s.timebase k).running <;> cases hsrc : s.sourceRuns (s.timebase k).source <;>
        simp_all [firstFailure]
    rw [if_pos hbad.1, hbad.2]
    rfl
  case stop =>
    refine congrArg Host.Outcome.next (hsup.execute_answered ht rfl ?_ hl)
    rw [indexOf_eq_some.mpr hb]
    dsimp only
    rw [← Bool.decide_congr State.hasDependent_eq_false_iff] at hf
    cases hrun : (s.timebase k).running <;> cases hdep : s.hasDependent k <;> simp [firstFailure, hrun, hdep] at hf <;> subst hf <;> rfl
  case setInput =>
    refine congrArg Host.Outcome.next (hsup.execute_answered ht rfl ?_ hl)
    split
    · next n d v hn hd hv =>
      rw [indexOf_eq_some] at hn
      rw [inRange_eq_some] at hd
      have hv4 : div.toNat < 4 := dividerOf_lt hv
      have := n.isLt
      omega
    · rfl
  case setLine =>
    refine congrArg Host.Outcome.next (hsup.execute_answered ht rfl ?_ hl)
    rw [firstFailure_cons] at hf
    split at hf
    · next hin =>
      obtain ⟨hb, hset⟩ := of_decide_eq_true hin
      obtain ⟨l, hl'⟩ : ∃ l : LineId, b.toNat = l.val := ⟨⟨b.toNat, hb⟩, rfl⟩
      obtain ⟨x, hx⟩ := Option.isSome_iff_exists.mp ((isSome_lineSettings (s.line l) pol chk tol tb spol).trans (decide_eq_true hset))
      rw [indexOf_eq_some.mpr hl']
      dsimp only
      rw [hx]
      dsimp only
      have hfree : (s.inServiceOn l).isEmpty = true ↔
          ∀ i : SlotId, ∀ q ∈ s.permit i, q.state.inService = true → ∀ l' : LineId, b.toNat = l'.val → q.names l' = false := by
        rw [State.inServiceOn_isEmpty_iff, hl']
        simp only [Fin.val_inj, forall_eq']
      rw [← Bool.decide_congr hfree] at hf
      refine State.checked_refused ?_
      rw [← hf]
      simp [firstFailure_cons]
    · next hout =>
      cases hf
      cases hi : indexOf 16 b with
      | none => rfl
      | some l =>
        have hnone : lineSettings (s.line l) pol chk tol tb spol = none := by
          rw [← Option.not_isSome_iff_eq_none, isSome_lineSettings, decide_eq_true_iff]
          intro hset
          exact hout (decide_eq_true ⟨(indexOf_eq_some.mp hi) ▸ l.isLt, hset⟩)
        dsimp only
        rw [hnone]
        rfl
  case setGroup =>
    refine congrArg Host.Outcome.next (hsup.execute_answered ht rfl ?_ hl)
    rw [indexOf_eq_some.mpr hb]
    rw [firstFailure_cons, Bool.decide_and, ← isSome_membersOf, ← isSome_indexOf] at hf
    cases hms : membersOf ms with
    | none => rw [hms] at hf; cases hf; rfl
    | some ls =>
    cases htb : indexOf 4 tb with
    | none => rw [hms, htb] at hf; cases hf; rfl
    | some k =>
    obtain rfl : ms = ls := by
      unfold membersOf at hms
      split at hms
      · exact Option.some.inj hms
      · cases hms
    rw [hms, htb, if_pos (show ((some ms).isSome && (some k).isSome) = true from rfl), ← Bool.decide_congr State.inOtherGroup_eq_false_iff] at hf
    refine State.checked_refused ?_
    have hbusy : (s.group g).state = .free ∧ s.anyInServiceOn (s.group g).members = false ∧ s.anyInServiceOn ms = false ↔
        (s.group g).state = .free ∧ ∀ i : SlotId, ∀ q ∈ s.permit i, q.state.inService = true →
          ∀ l : LineId, q.names l = true → (s.group g).has l = false ∧ ms.getLsbD l.val = false := by
      rw [State.anyInServiceOn_eq_false_iff, State.anyInServiceOn_eq_false_iff]
      exact and_congr_right fun _ => ⟨fun ⟨h1, h2⟩ i q hq his l hn => ⟨h1 i q hq his l hn, h2 i q hq his l hn⟩,
        fun h => ⟨fun i q hq his l hn => (h i q hq his l hn).1, fun i q hq his l hn => (h i q hq his l hn).2⟩⟩
    rw [← Bool.decide_congr hbusy] at hf
    rw [← hf]
    simp [firstFailure_cons, Bool.and_assoc]
  case setGroupBad =>
    refine congrArg Host.Outcome.next (hsup.execute_answered ht rfl ?_ hl)
    rw [indexOf_eq_none.mpr hb]
    rfl
  case lockLine =>
    refine congrArg Host.Outcome.next (hsup.execute_answered ht rfl ?_ hl)
    rw [firstFailure_cons] at hf
    split at hf
    · next hb =>
      obtain ⟨l, hl'⟩ : ∃ l : LineId, b.toNat = l.val := ⟨⟨b.toNat, of_decide_eq_true hb⟩, rfl⟩
      rw [indexOf_eq_some.mpr hl']
      refine State.checked_refused ?_
      rw [← hf]
      simp only [hl', firstFailure_cons, Fin.val_inj, Bool.not_eq_true', Condition.isLocked_eq_false, decide_eq_true_eq, forall_eq']
    · next hb =>
      cases hf
      rw [indexOf_eq_none.mpr (by simpa using hb)]
      rfl
  case clearLine =>
    refine congrArg Host.Outcome.next (hsup.execute_answered ht rfl ?_ hl)
    rw [firstFailure_cons] at hf
    split at hf
    · next hb =>
      obtain ⟨l, hl'⟩ : ∃ l : LineId, b.toNat = l.val := ⟨⟨b.toNat, of_decide_eq_true hb⟩, rfl⟩
      rw [indexOf_eq_some.mpr hl']
      refine State.checked_refused ?_
      rw [← hf]
      simp only [hl', firstFailure_cons, Fin.val_inj, decide_eq_true_eq, forall_eq', ne_eq, ← Condition.isLocked_eq_false,
        Bool.not_eq_false]
    · next hb =>
      cases hf
      rw [indexOf_eq_none.mpr (by simpa using hb)]
      rfl
  case ackLine =>
    refine congrArg Host.Outcome.next (hsup.execute_answered ht rfl ?_ hl)
    rw [indexOf_eq_none.mpr hb]
    rfl

end

section
/-! SUPPORT. Timebases and inputs (chapter 7), attention (chapter 8), and the ticks that permits take (chapter 2). -/

namespace Sys2Proof.Machine

set_option Elab.async false

/-! ### Timebase requests (R122 to R127) -/

theorem sourceOf_eq_some {k : TimebaseId} {kind arg : Byte} {src : TimebaseSource} : sourceOf k kind arg = some src ↔
    (kind = 0 ∧ src = .refclk) ∨ (kind = 1 ∧ ∃ j, j < k ∧ arg.toNat = j.val ∧ src = .tick j) ∨
      (kind = 2 ∧ ∃ n e, inputEdgeOf arg = some (n, e) ∧ src = .edge n e) := by
  rw [byte_eq_zero, byte_eq_one, byte_eq_two, sourceOf]
  split
  · next h => simp [h, @eq_comm _ src]
  · next h =>
    simp only [h, Option.bind_eq_bind, Option.bind_eq_some_iff, indexOf_eq_some]
    constructor
    · rintro ⟨j, hj, hlt⟩
      split at hlt
      · next hjk => exact .inr (.inl ⟨trivial, j, hjk, hj, (Option.some.inj hlt).symm⟩)
      · cases hlt
    · rintro (⟨h0, -⟩ | ⟨-, j, hjk, hj, rfl⟩ | ⟨h2, -⟩)
      · cases h0
      · exact ⟨j, hj, if_pos hjk⟩
      · cases h2
  · next h => simp [h, @eq_comm _ src]
  · next h0 h1 h2 => simp [eq_false h0, eq_false h1, eq_false h2]

theorem Due.not_isOf (k : TimebaseId) (d : Due) : (!d.isOf k) = decide ((∀ g, d ≠ Due.groupTick k g) ∧ (∀ l, d ≠ Due.lineTick k l) ∧
    (∀ j, d ≠ Due.sourceTick k j ∧ d ≠ Due.sourceTick j k) ∧ ∀ n rising, d ≠ Due.sourceEdge n rising k) := by
  rw [Bool.eq_iff_iff, decide_eq_true_iff]
  cases d with
  | sourceTick j tb =>
    simp only [Due.isOf, Bool.not_eq_true', Bool.or_eq_false_iff, decide_eq_false_iff_not, ne_eq, reduceCtorEq, not_false_eq_true,
      implies_true, Due.sourceTick.injEq, not_and, true_and, and_true]
    exact ⟨fun ⟨h1, h2⟩ m => ⟨fun h => absurd h h1, fun _ h => h2 h⟩, fun h => ⟨fun h1 => (h tb).1 h1 rfl, fun h2 => (h j).2 rfl h2⟩⟩
  | permitTick | groupTick | lineTick | sourceEdge | trigger | renewal => simp [Due.isOf]

theorem divisorOf_eq (w : Word) : divisorOf w = if w = 0 then 65536 else w.toNat := rfl

theorem Timebase.length_report (c : Nat) (x : Timebase) : (x.report c).length = 10 := by
  unfold Timebase.report sourceBytes
  cases x.source <;> cases x.pendingDivisor <;> rfl

theorem bitByte_eq (b : Bool) : bitByte b = if b then 1 else 0 := rfl

/-! ### Source events (R119 to R121) -/

/-- A source event that reaches a timebase is one that the model takes, and taking it writes what is due alone. -/
theorem State.SourceEvent.taken {s s0 : State} {k : TimebaseId} (h : s.SourceEvent k s0) :
    s.takeSourceEvent k = some s0 ∧ ∃ due, s0 = { s with due := due } := by
  unfold State.SourceEvent at h
  unfold State.takeSourceEvent
  cases hsrc : (s.timebase k).source with
  | refclk => rw [hsrc] at h; exact ⟨congrArg some h.symm, s.due, h⟩
  | tick j =>
    rw [hsrc] at h
    obtain ⟨hmem, rfl⟩ := h
    exact ⟨State.takeDue_mem hmem, _, rfl⟩
  | edge n e =>
    rw [hsrc] at h
    obtain ⟨rising, htakes, hmem, rfl⟩ := h
    refine ⟨if_pos (List.any_eq_true.mpr ⟨_, hmem, ?_⟩), _, rfl⟩
    simp [Due.isSourceEdge, htakes]

theorem exec_timebaseSourceEvent {s s0 : State} {k : TimebaseId} (hlow : s.resetLow = false) (h : s.SourceEvent k s0) :
    exec (.timebaseSourceEvent k) s = .next (s0.sourceEvent k) := by
  show Host.Outcome.next (s.outOfReset _) = _
  rw [State.outOfReset_high hlow, h.taken.1]

theorem exec_timebaseTick {s s0 : State} {k : TimebaseId} (hlow : s.resetLow = false) (h : s.SourceEvent k s0)
    (hticks : (s.timebase k).ticksNext = true) : exec (.timebaseTick k) s = .next (s0.sourceEvent k) := by
  show Host.Outcome.next (s.outOfReset _) = _
  rw [State.outOfReset_high hlow, h.taken.1]
  dsimp only
  rw [if_pos hticks]

/-! ### Ticks and edges on their way (R121, R131) -/

/-- The function gives an item its own happening or none. -/
def GivesOwn {α : Type} (own : α → Due) (f : α → Option Due) : Prop := ∀ a d, f a = some d → d = own a

theorem GivesOwn.nodup {α : Type} {own : α → Due} {f : α → Option Due} (h : GivesOwn own f) (inj : Function.Injective own)
    {l : List α} (hl : l.Nodup) : (l.filterMap f).Nodup :=
  hl.filterMap fun a a' _ ha ha' => inj ((h a _ ha).symm.trans (h a' _ ha'))

theorem GivesOwn.disjoint {α β : Type} {own : α → Due} {f : α → Option Due} {own' : β → Due} {f' : β → Option Due}
    (h : GivesOwn own f) (h' : GivesOwn own' f') (hne : ∀ a b, own a ≠ own' b) (l : List α) (l' : List β) :
    List.Disjoint (l.filterMap f) (l'.filterMap f') := by
  intro d hd hd'
  obtain ⟨a, -, ha⟩ := List.mem_filterMap.mp hd
  obtain ⟨b, -, hb⟩ := List.mem_filterMap.mp hd'
  exact hne a b ((h a d ha).symm.trans (h' b d hb))

theorem GivesOwn.ite {α : Type} {own : α → Due} (c : α → Prop) [DecidablePred c] :
    GivesOwn own fun a => if c a then some (own a) else none := by
  intro a d h
  dsimp only at h
  split at h
  · exact (Option.some.inj h).symm
  · cases h

theorem State.handle_injective (s : State) : Function.Injective s.handle := fun _ _ h => congrArg Handle.slot h

theorem State.nodup_tickUsers (s : State) (k : TimebaseId) : (s.tickUsers k).Nodup := by
  have hpermits : GivesOwn (fun i => Due.permitTick (s.handle i)) fun i =>
      match s.permit i with
      | none => none
      | some p => if p.timebase = k ∧ p.state.inService then some (.permitTick (s.handle i)) else none := by
    intro i d h
    cases hp : s.permit i with
    | none => simp [hp] at h
    | some p => simp only [hp, Option.ite_none_right_eq_some, Option.some.injEq] at h; exact h.2.symm
  have hgroups := GivesOwn.ite (own := fun g => Due.groupTick k g) fun g => (s.group g).timebase = k
  have hlines := GivesOwn.ite (own := fun l => Due.lineTick k l) fun l => (s.line l).checkTimebase = k ∧ (s.line l).senseOn
  have hcascades := GivesOwn.ite (own := fun tb => Due.sourceTick k tb) fun tb =>
    (s.timebase tb).source = .tick k ∧ (s.timebase tb).running
  unfold State.tickUsers
  refine List.nodup_append'.mpr ⟨List.nodup_append'.mpr ⟨List.nodup_append'.mpr ⟨?_, ?_, ?_⟩, ?_, ?_⟩, ?_, ?_⟩
  · exact hpermits.nodup (fun _ _ h => s.handle_injective (Due.permitTick.inj h)) (List.nodup_finRange _)
  · exact hgroups.nodup (fun _ _ h => (Due.groupTick.inj h).2) (List.nodup_finRange _)
  · exact hpermits.disjoint hgroups (fun _ _ => nofun) _ _
  · exact hlines.nodup (fun _ _ h => (Due.lineTick.inj h).2) (List.nodup_finRange _)
  · exact List.disjoint_append_left.mpr ⟨hpermits.disjoint hlines (fun _ _ => nofun) _ _, hgroups.disjoint hlines (fun _ _ => nofun) _ _⟩
  · exact hcascades.nodup (fun _ _ h => (Due.sourceTick.inj h).2) (List.nodup_finRange _)
  · exact List.disjoint_append_left.mpr ⟨List.disjoint_append_left.mpr ⟨hpermits.disjoint hcascades (fun _ _ => nofun) _ _,
      hgroups.disjoint hcascades (fun _ _ => nofun) _ _⟩, hlines.disjoint hcascades (fun _ _ => nofun) _ _⟩

theorem State.nodup_edgeReceivers (s : State) (n : InputId) (rising : Bool) : (s.edgeReceivers n rising).Nodup := by
  have htriggers : GivesOwn (fun i => Due.trigger (s.handle i)) fun i =>
      match s.permit i with
      | none => none
      | some p =>
        match p.trigger with
        | .input m e => if m = n ∧ e.takes rising ∧ p.state.inService then some (.trigger (s.handle i)) else none
        | .soft => none
        | .chain _ => none := by
    intro i d h
    cases hp : s.permit i with
    | none => simp [hp] at h
    | some p =>
      cases ht : p.trigger <;> simp only [hp, ht, reduceCtorEq, Option.ite_none_right_eq_some, Option.some.injEq] at h
      exact h.2.symm
  have hrenewals : GivesOwn (fun i => Due.renewal (s.handle i)) fun i =>
      match s.permit i with
      | none => none
      | some p =>
        match p.shape with
        | .lease (.input m e) _ => if m = n ∧ e.takes rising ∧ p.state.inService then some (.renewal (s.handle i)) else none
        | .lease .port _ => none
        | .pulse => none
        | .train _ _ => none := by
    intro i d h
    cases hp : s.permit i with
    | none => simp [hp] at h
    | some p =>
      cases hs : p.shape with
      | pulse | train => simp [hp, hs] at h
      | lease src m =>
        cases src with
        | port => simp [hp, hs] at h
        | input m e =>
          simp only [hp, hs, Option.ite_none_right_eq_some, Option.some.injEq] at h
          exact h.2.symm
  have hsources : GivesOwn (fun tb => Due.sourceEdge n rising tb) fun tb =>
      match (s.timebase tb).source with
      | .edge m e => if m = n ∧ e.takes rising ∧ (s.timebase tb).running then some (.sourceEdge n rising tb) else none
      | .refclk => none
      | .tick _ => none := by
    intro tb d h
    cases hs : (s.timebase tb).source <;>
      simp only [hs, reduceCtorEq, Option.ite_none_right_eq_some, Option.some.injEq] at h
    exact h.2.symm
  unfold State.edgeReceivers
  refine List.nodup_append'.mpr ⟨List.nodup_append'.mpr ⟨?_, ?_, ?_⟩, ?_, ?_⟩
  · exact htriggers.nodup (fun _ _ h => s.handle_injective (Due.trigger.inj h)) (List.nodup_finRange _)
  · exact hrenewals.nodup (fun _ _ h => s.handle_injective (Due.renewal.inj h)) (List.nodup_finRange _)
  · exact htriggers.disjoint hrenewals (fun _ _ => nofun) _ _
  · exact hsources.nodup (fun _ _ h => (Due.sourceEdge.inj h).2.2) (List.nodup_finRange _)
  · exact List.disjoint_append_left.mpr
      ⟨htriggers.disjoint hsources (fun _ _ => nofun) _ _, hrenewals.disjoint hsources (fun _ _ => nofun) _ _⟩

/-- A delivery adds each happening once, and takes away those without use that it delivers anew. -/
theorem State.count_deliver (s : State) {ds : List Due} (hds : ds.Nodup) (d : Due) : (s.deliver ds).due.count d =
    if d ∈ ds then 1 + (if s.hasUse d = true then s.due.count d else 0) else s.due.count d := by
  have hcount : (s.deliver ds).due.count d = (s.due.filter fun d => s.hasUse d || !ds.contains d).count d + ds.count d :=
    List.count_append
  by_cases hd : d ∈ ds
  · rw [hcount, if_pos hd, List.count_eq_one_of_mem hds hd, Nat.add_comm]
    congr 1
    by_cases hu : s.hasUse d = true
    · rw [if_pos hu, List.count_filter (by simp [hu])]
    · rw [if_neg hu, List.count_eq_zero]
      simp [List.mem_filter, hu, hd]
  · rw [hcount, if_neg hd, List.count_eq_zero.mpr hd, List.count_filter (by simp [hd]), Nat.add_zero]

theorem PState.takesTicks_iff {x : PState} : x.takesTicks = true ↔
    x = .arming ∨ x = .waiting ∨ x = .blocked ∨ x = .active ∨ x = .resting := by cases x <;> simp [PState.takesTicks]

theorem GroupState.isGap_iff {x : GroupState} : x.isGap = true ↔ ∃ r, x = .gap r := by cases x <;> simp [GroupState.isGap]

/-! ### Inputs (R128 to R132) -/

theorem dividerOf_eq_some {b : Byte} {v : Divider} : dividerOf b = some v ↔
    (b = 0 ∧ v.edges = 1) ∨ (b = 1 ∧ v.edges = 8) ∨ (b = 2 ∧ v.edges = 64) ∨ (b = 3 ∧ v.edges = 512) := by
  rw [byte_eq_zero, byte_eq_one, byte_eq_two, byte_eq_three, dividerOf]
  split
  · next h => cases v <;> simp [h, Divider.edges]
  · next h => cases v <;> simp [h, Divider.edges]
  · next h => cases v <;> simp [h, Divider.edges]
  · next h => cases v <;> simp [h, Divider.edges]
  · next h0 h1 h2 h3 => simp [eq_false h0, eq_false h1, eq_false h2, eq_false h3]

theorem dividerByte_of {b : Byte} {v : Divider} (h : dividerOf b = some v) : dividerByte v = b := by
  rcases dividerOf_eq_some.mp h with ⟨rfl, hv⟩ | ⟨rfl, hv⟩ | ⟨rfl, hv⟩ | ⟨rfl, hv⟩ <;> cases v <;> cases hv <;> rfl

theorem exec_inputSample {s : State} (hlow : s.resetLow = false) (n : InputId) (raw : Bool) :
    exec (.inputSample n raw) s = .next (s.clockInput n raw) := congrArg _ (State.outOfReset_high hlow _)

theorem exec_filteredEdge {s : State} (hlow : s.resetLow = false) {n : InputId} {raw : Bool} (h : (s.input n).edgesOn raw = true) :
    exec (.filteredEdge n raw) s = .next (s.clockInput n raw) := by
  show Host.Outcome.next (s.outOfReset _) = _
  rw [State.outOfReset_high hlow, if_pos h]

/-- A REFCLK edge that is no change of the filtered level writes the input alone (R129, R130). -/
theorem State.clockInput_quiet {s : State} {n : InputId} {raw : Bool} (h : (s.input n).edgesOn raw = false) :
    s.clockInput n raw = s.setInput n ((s.input n).clocked raw) := if_neg (by simp [h])

/-! ### Attention (R140 to R142) -/

theorem causeByte_eq (c : LockCause) : causeByte c = if c = .sense then 0 else 1 := by cases c <;> simp [causeByte]

theorem conditionByte_eq (c : Condition) : conditionByte c = if c = .normal then 0 else 1 := by
  cases c <;> simp [conditionByte, Condition.isLocked, bitByte]

theorem kindsOf_of {b : Byte} (h : b.toNat < 32) : kindsOf b = some (noticesOf b) := if_pos h

theorem NoticeSet.isEmpty_iff {n : NoticeSet} : n.isEmpty = true ↔ n = {} := beq_iff_eq

/-! ### Ticks at permits (R121) -/

section Ticks
variable {s : State} {i : SlotId} {q : Permit} (hlow : s.resetLow = false) (hq : s.permit i = some q)
  (hdue : Due.permitTick (s.handle i) ∈ s.due)
include hlow hq hdue

/-- A permit of which the row's test is true takes the tick due at it. -/
theorem State.takePermitTick_eq {test : Permit → Bool} (h : test q = true) :
    s.takePermitTick i test = ((s.tickTaken i).permitTick i).settleLevels := by
  rw [State.takePermitTick, State.outOfReset_high hlow, hq]
  dsimp only
  rw [if_pos h, State.takeDue_mem hdue]
  rfl

/-- Where a tick leaves the levels settled, the row stores what the tick leaves. -/
theorem State.takePermitTick_settled {test : Permit → Bool} {t : State} (h : test q = true) (ht : (s.tickTaken i).permitTick i = t)
    (hl : t.LevelLaw) : (Host.Outcome.next (s.takePermitTick i test) : Host.Outcome State Fault Refusal) = .next t := by
  rw [State.takePermitTick_eq hlow hq hdue h, ht, State.settleLevels_eq hl]

end Ticks

section TickOf
variable {s : State} {i : SlotId} {q : Permit} (hq : s.permit i = some q)
include hq

theorem State.permitTick_passes (h : q.state = .idle ∨ q.state = .armed ∨ q.state = .ended) : s.permitTick i = s := by
  unfold State.permitTick
  obtain h | h | h := h <;> simp only [hq, h]

theorem State.permitTick_arming (h : q.state = .arming) : s.permitTick i = s.setPermit i { q with state := .armed } := by
  unfold State.permitTick
  simp only [hq, h]

theorem State.permitTick_counts (h : q.state = .waiting ∨ q.state = .resting) : s.permitTick i =
    if q.remaining ≤ 1 then (s.setPermit i { q with remaining := q.remaining - 1 }).activate i
    else s.setPermit i { q with remaining := q.remaining - 1 } := by
  unfold State.permitTick
  obtain h | h := h <;> simp only [hq, h]

theorem State.permitTick_active (h : q.state = .active) : s.permitTick i =
    if q.remaining ≤ 1 then (s.setPermit i q.countHold).holdEnd i q.countHold else s.setPermit i q.countHold := by
  unfold State.permitTick
  simp only [hq, h]

theorem State.permitTick_blocked (h : q.state = .blocked) : s.permitTick i = s.blockedTickAt i q := by
  unfold State.permitTick
  simp only [hq, h]

end TickOf

theorem State.blockedTickAt_limit (s : State) (i : SlotId) {q : Permit} {b : Nat} (h : q.blockLimit = some b) : s.blockedTickAt i q =
    if b ≤ q.blockedAge + 1 then (s.setPermit i { q with blockedAge := q.blockedAge + 1 }).endAbnormal i .starved
    else s.setPermit i { q with blockedAge := q.blockedAge + 1 } := by
  simp only [State.blockedTickAt, h]

theorem Permit.lastTick_of {q : Permit} {x : PState} (h : q.state = x) (hr : q.remaining = 1) : q.lastTick x = true := by
  simp [Permit.lastTick, h, hr]

end Sys2Proof.Machine

open Sys2Proof Sys2Proof.Machine

set_option Elab.async false

/-- Settles O45: each request by its checks, and the report byte by byte. -/
theorem timebaseRequestsAnswer : Obligations.TimebaseRequestsAnswer := by
  intro s p f b k hl hsup hb
  refine ⟨fun kind arg w src d ht hsrc hd => ⟨fun hstop u hu => ?_, fun hrun hsame u hu => ?_, fun hrun hother => ?_⟩,
    fun ht hstop hsource u hu => ?_, fun ht hrun hpermits hgaps hlines hcascades u hu => ?_, fun kind arg src => sourceOf_eq_some,
    fun c x => ⟨Config.freeByte c 0, Config.freeByte c 1, Config.freeByte c 2, x.length_report c, ?_⟩⟩
  · refine congrArg Host.Outcome.next (hsup.execute_answered ht rfl ?_ (by rw [hu]; exact hl))
    rw [indexOf_eq_some.mpr hb]
    dsimp only
    rw [hsrc]
    dsimp only
    rw [if_neg (by simp [hstop]), divisorOf_eq, ← hd, ← hu]
    simp only [State.timebaseReply, hu]
    rfl
  · refine congrArg Host.Outcome.next (hsup.execute_answered ht rfl ?_ (by rw [hu]; exact hl))
    rw [indexOf_eq_some.mpr hb]
    dsimp only
    rw [hsrc]
    dsimp only
    rw [if_pos hrun, if_pos hsame, divisorOf_eq, ← hd, ← hu]
    simp only [State.timebaseReply, hu]
    rfl
  · refine congrArg Host.Outcome.next (hsup.execute_answered ht rfl ?_ hl)
    rw [indexOf_eq_some.mpr hb]
    dsimp only
    rw [hsrc]
    dsimp only
    rw [if_pos hrun, if_neg hother]
    rfl
  · refine congrArg Host.Outcome.next (hsup.execute_answered ht rfl ?_ (by rw [hu]; exact hl))
    rw [indexOf_eq_some.mpr hb]
    dsimp only
    rw [if_neg (by simp [hstop, State.sourceRuns_iff.mpr hsource]), ← hu]
    simp only [State.timebaseReply, hu]
    rfl
  · have hfree : s.hasDependent k = false := State.hasDependent_eq_false_iff.mpr ⟨hpermits, fun g hg => by
      cases hst : (s.group g).state with
      | free | held => rfl
      | gap r => exact absurd hst (hgaps g r hg), hlines, hcascades⟩
    refine congrArg Host.Outcome.next (hsup.execute_answered ht rfl ?_ (by rw [hu]; exact hl))
    rw [indexOf_eq_some.mpr hb]
    dsimp only
    rw [if_neg (by simp [hrun]), if_neg (by simp [hfree]), hu, ← funext (Due.not_isOf k)]
    rfl
  · unfold Timebase.report sourceBytes bitByte
    rfl

/-- Settles O46: a source event by the timebase's state and its count. -/
theorem sourceEventsCountAndTick : Obligations.SourceEventsCountAndTick := by
  intro s k s0 hlow h
  obtain ⟨-, due, rfl⟩ := h.taken
  have htb : State.timebase { s with due := due } k = s.timebase k := rfl
  refine ⟨fun hstop => ?_, fun hrun hcount => ?_, fun hrun hcount => ⟨?_, fun d hd => ?_⟩⟩
  · rw [exec_timebaseSourceEvent hlow h, State.sourceEvent, htb, if_neg (by simp [hstop])]
  · rw [exec_timebaseSourceEvent hlow h, State.sourceEvent, htb, if_pos hrun, if_neg (by omega)]
  · rw [exec_timebaseSourceEvent hlow h, exec_timebaseTick hlow h (by simp [Timebase.ticksNext, hrun, hcount])]
  · rw [exec_timebaseTick hlow h (by simp [Timebase.ticksNext, hrun, hcount]), State.sourceEvent, htb, if_pos hrun,
      if_pos (by omega), hd]
    rfl

/-- Settles O47: users and receivers by the lists that the model makes of them. -/
theorem ticksAndEdgesReachUsers : Obligations.TicksAndEdgesReachUsers := by
  intro s d
  refine ⟨fun k => ⟨s.nodup_tickUsers k, ?_⟩, fun n rising => ⟨s.nodup_edgeReceivers n rising, State.mem_edgeReceivers⟩,
    fun ds hds => s.count_deliver hds d, ?_⟩
  · rw [State.mem_tickUsers]
    simp only [PState.inService_eq, decide_eq_true_eq]
  · cases d with
    | permitTick h =>
      simp only [State.hasUse, Option.any_eq_true, PState.takesTicks_iff]
    | groupTick k g => exact GroupState.isGap_iff
    | lineTick k l => exact Line.checking_iff
    | sourceTick k tb => exact Iff.rfl
    | sourceEdge n rising tb => exact Iff.rfl
    | trigger h => simp only [State.hasUse, Option.any_eq_true]
    | renewal h =>
      simp only [State.hasUse, Option.any_eq_true, Bool.and_eq_true, decide_eq_true_eq, Option.isSome_iff_ne_none]

/-- Settles O48: SET_INPUT, and a REFCLK edge by the phase, the first sample and the agreement. -/
theorem inputsAreConditioned : Obligations.InputsAreConditioned := by
  intro s n
  refine ⟨fun b v => dividerOf_eq_some, fun p f b dep div v x hl hsup ht hb hdep1 hdep7 hv hx => ?_, fun raw x y hlow hx hy => ?_⟩
  · refine congrArg Host.Outcome.next (hsup.execute_answered ht rfl ?_ (hl.of_lines fun _ => rfl))
    rw [indexOf_eq_some.mpr hb, inRange_byte_eq_some ⟨hdep1, hdep7⟩, hv]
    dsimp only
    rw [← hx, answer]
    congr 1
    rw [hx, Input.report]
    simp only [byteOf_byte, dividerByte_of hv, bitByte_eq]
    rfl
  · have hquiet : x.edgesOn raw = false → exec (.inputSample n raw) s = .next (s.setInput n (x.clocked raw)) := fun h => by
      rw [exec_inputSample hlow, State.clockInput_quiet (by rw [← hx]; exact h), hx]
    refine ⟨fun hp => ?_, fun hp hs => ?_, fun hp hs hraw => ?_, fun hp hs hraw hdepth => ?_, fun hp hs hraw hdepth => ?_⟩
    · rw [hquiet (by simp [Input.edgesOn, Nat.not_le.mpr hp]), Input.clocked, if_pos hp]
    · rw [hquiet (by simp [Input.edgesOn, hs]), Input.clocked, if_neg (by omega), hy]
      simp [hs]
    · rw [hquiet (by simp [Input.edgesOn, hraw]), Input.clocked, if_neg (by omega), hy]
      simp [hs, hraw]
    · rw [hquiet (by simp [Input.edgesOn, hdepth]), Input.clocked, if_neg (by omega), hy]
      simp [hs, hraw, hdepth]
    · have hedge : (s.input n).edgesOn raw = true := by rw [← hx]; simp [Input.edgesOn, hp, hs, hraw, hdepth]
      rw [exec_inputSample hlow, exec_filteredEdge hlow hedge]
      refine ⟨rfl, ?_⟩
      have hclocked : x.clocked raw = { y with level := raw, agreement := 0 } := by
        rw [Input.clocked, if_neg (by omega), hy]
        simp [hs, hraw, hdepth]
      rw [← hclocked, hx]
      exact congrArg _ (if_pos hedge)

/-- Settles O44: the head entry, and each ACK by its target. -/
theorem attentionIsReadAndAcknowledged : Obligations.AttentionIsReadAndAcknowledged := by
  intro s p f hl
  refine ⟨fun hclosed ht => ?_, fun h kinds hclosed ht => ?_, fun hopen ht => ?_, fun h kinds i q ht hp hk => ?_,
    fun b l ht hsup hb => ?_, fun ht hsup => ?_⟩
  · refine congrArg Host.Outcome.next (State.execute_refused hl ht (congrArg some (State.checked_refused ?_)))
    simp [firstFailure_cons, hclosed]
  · refine congrArg Host.Outcome.next (State.execute_handle_refused hl ht rfl ?_)
    simp [State.checkHandle, hclosed]
  · have hrun : exec .nextAttention s =
        .next (s.answered p f .ok (s.attentionReport s.freeCount (s.port p).attention.head?)) :=
      congrArg Host.Outcome.next (State.execute_answered hl ht (congrArg some (State.checked_passes (by simp [hopen]))))
    simp only [hrun, State.attentionReport]
    cases (s.port p).attention with
    | nil => exact ⟨_, _, _, _, _, rfl⟩
    | cons e rest =>
      cases e with
      | permit h =>
        dsimp only [List.head?_cons]
        cases hr : s.resolve h with
        | none => exact ⟨_, _, _, 0, 0, rfl⟩
        | some q =>
          refine ⟨0, 0, 0, 0, 0, ?_⟩
          by_cases he : q.state = .ended <;> simp [he, handleBytes, reasonByte]
      | line l c =>
        refine ⟨Config.freeByte s.freeCount 0, Config.freeByte s.freeCount 1, 0, 0, 0, ?_⟩
        dsimp only [List.head?_cons]
        rw [← causeByte_eq, ← conditionByte_eq]
        rfl
      | quench => exact ⟨_, _, _, _, 0, rfl⟩
  · refine congrArg Host.Outcome.next (hp.execute_answered ht rfl ?_ ?_)
    · rw [kindsOf_of hk]
      dsimp only
      unfold answer State.acknowledge
      congr 1
      by_cases he : q.pending.minus (noticesOf kinds) = {}
      · rw [if_pos he, if_pos (NoticeSet.isEmpty_iff.mpr he), he]
        rfl
      · rw [if_neg he, if_neg fun h => he (NoticeSet.isEmpty_iff.mp h)]
    · split <;> exact hl
  · refine congrArg Host.Outcome.next (hsup.execute_answered ht rfl ?_ (hl.of_lines fun _ => rfl))
    rw [indexOf_eq_some.mpr hb]
    rfl
  · exact congrArg Host.Outcome.next (hsup.execute_answered ht rfl rfl (hl.of_lines fun _ => rfl))

/-- Settles O36: a tick by the state of the permit that takes it; the rows differ in their tests alone. -/
theorem ticksAreCounted : Obligations.TicksAreCounted := by
  intro s i q hl hlow hq hdue
  have hq' : (s.tickTaken i).permit i = some q := hq
  have hl' : (s.tickTaken i).LevelLaw := hl
  have hrows : ∀ {test test' : Permit → Bool}, test q = true → test' q = true →
      (Host.Outcome.next (s.takePermitTick i test) : Host.Outcome State Fault Refusal) = .next (s.takePermitTick i test') :=
    fun h h' => by rw [State.takePermitTick_eq hlow hq hdue h, State.takePermitTick_eq hlow hq hdue h']
  refine ⟨fun hs => ?_, fun hs hr => ?_, fun hs hr => ?_, fun hs hr => ?_, fun hs hr => ?_, fun hs hr => ?_, fun hs => ?_,
    fun hs hb => ?_, fun hs b hb => ⟨fun hage => ?_, fun hage => ?_⟩⟩
  · exact State.takePermitTick_settled hlow hq hdue (decide_eq_true hs) (State.permitTick_arming hq' hs) hl'
  · have htest : (q.state ≠ .arming && q.state ≠ .blocked) = true := by obtain hs | hs := hs <;> simp [hs]
    exact State.takePermitTick_settled hlow hq hdue htest ((State.permitTick_counts hq' hs).trans (if_neg (by omega))) hl'
  · exact State.takePermitTick_settled hlow hq hdue (by simp [hs]) ((State.permitTick_active hq' hs).trans (if_neg (by omega))) hl'
  · exact hrows (by simp [hs]) (Permit.lastTick_of hs hr)
  · exact hrows (by simp [hs]) (Permit.lastTick_of hs hr)
  · have hlast := Permit.lastTick_of hs hr
    cases hshape : q.shape with
    | pulse => exact hrows (by simp [hs]) (by simp [hlast, hshape])
    | train => exact hrows (by simp [hs]) (by simp [hlast, hshape, Shape.isTrain])
    | lease => exact hrows (by simp [hs]) (by simp [hlast, hshape, Shape.isLease])
  · have htest : (q.state ≠ .arming && q.state ≠ .blocked) = true := by obtain hs | hs | hs := hs <;> simp [hs]
    exact State.takePermitTick_settled hlow hq hdue htest (State.permitTick_passes hq' hs) hl'
  · refine State.takePermitTick_settled hlow hq hdue (by simp [hs]) ((State.permitTick_blocked hq' hs).trans ?_) hl'
    simp only [State.blockedTickAt, hb]
  · exact State.takePermitTick_settled hlow hq hdue (by simp [hs]) ((State.permitTick_blocked hq' hs).trans
      ((State.blockedTickAt_limit _ i hb).trans (if_neg (by omega)))) hl'
  · exact hrows (by simp [hs]) (by simp [Permit.starvesNext, hs, hb, hage])

end

section
/-! SUPPORT. Request frames and their decoding (R156 to R158, R164, R167, R170). -/

namespace Sys2Proof.Machine

set_option Elab.async false

/-! ### The frame check (R158, R167) -/

theorem lowByte_word (lo hi : Byte) : lowByte (word lo hi) = lo := by
  apply BitVec.eq_of_getLsbD_eq
  intro k hk
  rw [lowByte, BitVec.getLsbD_setWidth, word, BitVec.getLsbD_append]
  simp [hk]

theorem highByte_word (lo hi : Byte) : highByte (word lo hi) = hi := by
  apply BitVec.eq_of_getLsbD_eq
  intro k hk
  rw [highByte, BitVec.getLsbD_setWidth, BitVec.getLsbD_ushiftRight, word, BitVec.getLsbD_append]
  simp [hk]

theorem wordBytes_word (lo hi : Byte) : wordBytes (word lo hi) = [lo, hi] := by rw [wordBytes, lowByte_word, highByte_word]

/-- A frame before its CRC. -/
def frameBody (f : Frame) : List Byte := BitVec.ofNat 8 (f.fields.length + 5) :: f.seq.setWidth 8 :: f.code :: f.fields

theorem encodeFrame_eq (f : Frame) : encodeFrame f = frameBody f ++ wordBytes (crc16 (frameBody f)) := rfl

theorem length_frameBody (f : Frame) : (frameBody f).length = f.fields.length + 3 := rfl

theorem length_encodeFrame (f : Frame) : (encodeFrame f).length = f.fields.length + 5 := by
  rw [encodeFrame_eq, List.length_append, length_frameBody]; rfl

theorem seq_setWidth (q : Seq) : (q.setWidth 8).toNat < 16 ∧ (q.setWidth 8).setWidth 4 = q := by
  have hq : (q.setWidth 8).toNat = q.toNat := by
    rw [BitVec.toNat_setWidth]
    exact Nat.mod_eq_of_lt (Nat.lt_trans q.isLt (by decide))
  refine ⟨hq ▸ q.isLt, BitVec.eq_of_toNat_eq ?_⟩
  rw [BitVec.toNat_setWidth, hq]
  exact Nat.mod_eq_of_lt q.isLt

theorem control_setWidth {b : Byte} (h : b.toNat < 16) : (b.setWidth 4).setWidth 8 = b := by
  apply BitVec.eq_of_toNat_eq
  rw [BitVec.toNat_setWidth, BitVec.toNat_setWidth]
  omega

theorem parseFrame_cons (len : Byte) (received : List Byte) : parseFrame (len :: received) =
    if len.toNat < 5 ∨ 64 < len.toNat ∨ received.length + 1 < len.toNat then none
    else match (len :: received.take (len.toNat - 1)).take (len.toNat - 2), (len :: received.take (len.toNat - 1)).drop (len.toNat - 2) with
      | _ :: control :: code :: fields, [crcLow, crcHigh] =>
        if control.toNat < 16 ∧ word crcLow crcHigh = crc16 ((len :: received.take (len.toNat - 1)).take (len.toNat - 2)) then
          some { seq := control.setWidth 4, code := code, fields := fields }
        else none
      | _, _ => none := rfl

/-- A frame passes the frame check, whatever padding follows it. -/
theorem parseFrame_encodeFrame {f : Frame} (hf : f.fields.length ≤ 59) (padding : List Byte) :
    parseFrame (encodeFrame f ++ padding) = some f := by
  have hlen : (BitVec.ofNat 8 (f.fields.length + 5)).toNat = f.fields.length + 5 := by
    rw [BitVec.toNat_ofNat]; exact Nat.mod_eq_of_lt (by omega)
  obtain ⟨received, hreceived⟩ : ∃ received, encodeFrame f = BitVec.ofNat 8 (f.fields.length + 5) :: received := ⟨_, rfl⟩
  have hrlen : received.length = f.fields.length + 4 := by
    have := length_encodeFrame f
    rw [hreceived, List.length_cons] at this
    omega
  have hframe : (BitVec.ofNat 8 (f.fields.length + 5) :: (received ++ padding).take (f.fields.length + 4)) = encodeFrame f := by
    rw [List.take_left' hrlen, hreceived]
  have hbody : (encodeFrame f).take (f.fields.length + 3) = frameBody f := List.take_left' (length_frameBody f)
  have hcrc : (encodeFrame f).drop (f.fields.length + 3) = wordBytes (crc16 (frameBody f)) := List.drop_left' (length_frameBody f)
  obtain ⟨hseq, hback⟩ := seq_setWidth f.seq
  rw [hreceived, List.cons_append, parseFrame_cons, hlen, if_neg (by rw [List.length_append, hrlen]; omega)]
  simp only [show f.fields.length + 5 - 1 = f.fields.length + 4 from rfl,
    show f.fields.length + 5 - 2 = f.fields.length + 3 from rfl, hframe, hbody, hcrc]
  simp only [frameBody, wordBytes, word_lowByte_highByte, hseq, hback, and_self, if_true]

/-- What passes the frame check is an encoded frame with padding. -/
theorem encodeFrame_of_parseFrame {bytes : List Byte} {f : Frame} (h : parseFrame bytes = some f) :
    f.fields.length ≤ 59 ∧ ∃ padding, bytes = encodeFrame f ++ padding := by
  cases bytes with
  | nil => cases h
  | cons len received =>
    rw [parseFrame_cons] at h
    split at h
    · cases h
    next hrange =>
    simp only [not_or, Nat.not_lt] at hrange
    obtain ⟨hlo, hhi, hlong⟩ := hrange
    have hsplit := List.take_append_drop (len.toNat - 2) (len :: received.take (len.toNat - 1))
    have hbodylen : ((len :: received.take (len.toNat - 1)).take (len.toNat - 2)).length = len.toNat - 2 := by
      simp only [List.length_take, List.length_cons]
      omega
    have hhead : ((len :: received.take (len.toNat - 1)).take (len.toNat - 2)).head? = some len := by
      obtain ⟨n, hn⟩ : ∃ n, len.toNat - 2 = n + 1 := ⟨len.toNat - 3, by omega⟩
      rw [hn]; rfl
    split at h
    next l control code fields lo hi hbody hcrc =>
      split at h
      · next hok =>
        obtain ⟨hctl, hword⟩ := hok
        obtain rfl := Option.some.inj h
        rw [hbody] at hbodylen hhead hword hsplit
        rw [hcrc] at hsplit
        obtain rfl : l = len := Option.some.inj hhead
        simp only [List.length_cons] at hbodylen
        have hfields : fields.length + 5 = l.toNat := by omega
        have hframe : frameBody { seq := control.setWidth 4, code := code, fields := fields } = l :: control :: code :: fields := by
          simp only [frameBody, control_setWidth hctl, hfields, BitVec.ofNat_toNat, BitVec.setWidth_eq]
        refine ⟨by dsimp only; omega, received.drop (l.toNat - 1), ?_⟩
        rw [encodeFrame_eq, hframe, ← hword, wordBytes_word, hsplit, List.cons_append, List.take_append_drop]
      · cases h
    · cases h

/-! ### Decoding (R164, R170) -/

/-- A word field sent as its two bytes, and put together again. -/
def rejoined (w : Word) : Word := word (lowByte w) (highByte w)

theorem rejoined_eq : rejoined = id := funext word_lowByte_highByte

theorem decodeRequest_fields (r : Request) : decodeRequest r.code r.fields = .ok r := by
  cases r with
  | create c =>
    have h : decodeRequest (Request.create c).code (Request.create c).fields = .ok (.create { c with
        lines := rejoined c.lines, wait := rejoined c.wait, hold := rejoined c.hold, rest := rejoined c.rest
        repeats := rejoined c.repeats, minInterval := rejoined c.minInterval, blockLimit := rejoined c.blockLimit }) := rfl
    rw [h, rejoined_eq]; rfl
  | amend a =>
    have h : decodeRequest (Request.amend a).code (Request.amend a).fields = .ok (.amend { a with
        fieldMask := rejoined a.fieldMask, wait := rejoined a.wait, hold := rejoined a.hold, rest := rejoined a.rest
        repeats := rejoined a.repeats, minInterval := rejoined a.minInterval, blockLimit := rejoined a.blockLimit }) := rfl
    rw [h, rejoined_eq]; rfl
  | setTimebase tb kind arg d =>
    have h : decodeRequest (Request.setTimebase tb kind arg d).code (Request.setTimebase tb kind arg d).fields =
        .ok (.setTimebase tb kind arg (rejoined d)) := rfl
    rw [h, rejoined_eq]; rfl
  | setGroup g ms gap tb =>
    have h : decodeRequest (Request.setGroup g ms gap tb).code (Request.setGroup g ms gap tb).fields =
        .ok (.setGroup g (rejoined ms) gap tb) := rfl
    rw [h, rejoined_eq]; rfl
  | openSession | closeSession | status | readLines | nextAttention | quenchSet | quenchClear | clearTable | listTable
  | startTimebase | stopTimebase | lockLine | clearLine | arm | fire | renew | release | retire | query | revoke | setQuota
  | setInput | ackPermit | ackLine | ackQuench | setLine => rfl

theorem length_fields (r : Request) : r.fields.length ≤ 59 := by
  cases r <;> simp [Request.fields, wordBytes]

/-- An ACK is refused for its target kind alone. -/
theorem decodeAck_error {k a b c : Byte} {st : Status} :
    decodeAck k a b c = .error st ↔ st = .badField ∧ k ≠ 1 ∧ k ≠ 2 ∧ k ≠ 3 := by
  rw [ne_eq, ne_eq, ne_eq, byte_eq_one, byte_eq_two, byte_eq_three, decodeAck]
  split
  · next h => simp [h]
  · next h => simp [h]
  · next h => simp [h]
  · next h1 h2 h3 => simp [eq_false h1, eq_false h2, eq_false h3, eq_comm]

/-- Fields of a request's code and length are refused only where the code is ACK's. -/
theorem decodeRequest_sameLength (r : Request) {fields : List Byte} {st : Status} (h : fields.length = r.fields.length)
    (hack : r.code ≠ 0x1A) : decodeRequest r.code fields ≠ .error st := by
  cases r with
  | openSession | closeSession | status | readLines | nextAttention | quenchSet | quenchClear | clearTable =>
    obtain rfl := List.length_eq_zero_iff.mp h
    exact nofun
  | listTable | startTimebase | stopTimebase | lockLine | clearLine =>
    obtain ⟨a, rfl⟩ := List.length_eq_one_iff.mp h
    exact nofun
  | arm | fire | renew | release | retire | query | revoke | setQuota =>
    obtain ⟨a, b, rfl⟩ := List.length_eq_two.mp h
    exact nofun
  | setInput =>
    obtain ⟨a, b, c, rfl⟩ := List.length_eq_three.mp h
    exact nofun
  | ackPermit | ackLine | ackQuench => exact absurd rfl hack
  | setTimebase | setGroup => match fields, h with | [_, _, _, _, _], _ => exact nofun
  | setLine => match fields, h with | [_, _, _, _, _, _], _ => exact nofun
  | amend a =>
    have h20 : fields.length = 20 := h
    show decodeRequest 0x15 fields ≠ _
    match fields, h20 with | [_, _, _, _, _, _, _, _, _, _, _, _, _, _, _, _, _, _, _, _], _ => exact nofun
  | create c =>
    have h26 : fields.length = 26 := h
    show decodeRequest 0x10 fields ≠ _
    match fields, h26 with
    | [_, _, _, _, _, _, _, _, _, _, _, _, _, _, _, _, _, _, _, _, _, _, _, _, _, _], _ => exact nofun

/-- Fields of a request's code and of another length are refused BAD_REQUEST: the list runs out, or goes on too long. -/
theorem decodeRequest_otherLength (r : Request) {fields : List Byte} (h : fields.length ≠ r.fields.length) :
    decodeRequest r.code fields = .error .badRequest := by
  cases r with
  | openSession | closeSession | status | readLines | nextAttention | quenchSet | quenchClear | clearTable =>
    obtain _ | ⟨a, fields⟩ := fields
    exacts [absurd rfl h, rfl]
  | listTable | startTimebase | stopTimebase | lockLine | clearLine =>
    obtain _ | ⟨a, _ | ⟨b, fields⟩⟩ := fields
    exacts [rfl, absurd rfl h, rfl]
  | arm | fire | renew | release | retire | query | revoke | setQuota =>
    obtain _ | ⟨a, _ | ⟨b, _ | ⟨c, fields⟩⟩⟩ := fields
    exacts [rfl, rfl, absurd rfl h, rfl]
  | setInput =>
    obtain _ | ⟨a, _ | ⟨b, _ | ⟨c, _ | ⟨d, fields⟩⟩⟩⟩ := fields
    exacts [rfl, rfl, rfl, absurd rfl h, rfl]
  | ackPermit | ackLine | ackQuench =>
    obtain _ | ⟨a, _ | ⟨b, _ | ⟨c, _ | ⟨d, _ | ⟨e, fields⟩⟩⟩⟩⟩ := fields
    exacts [rfl, rfl, rfl, rfl, absurd rfl h, rfl]
  | setTimebase | setGroup =>
    obtain _ | ⟨a, _ | ⟨b, _ | ⟨c, _ | ⟨d, _ | ⟨e, _ | ⟨f, fields⟩⟩⟩⟩⟩⟩ := fields
    exacts [rfl, rfl, rfl, rfl, rfl, absurd rfl h, rfl]
  | setLine =>
    obtain _ | ⟨a, _ | ⟨b, _ | ⟨c, _ | ⟨d, _ | ⟨e, _ | ⟨f, _ | ⟨g, fields⟩⟩⟩⟩⟩⟩⟩ := fields
    exacts [rfl, rfl, rfl, rfl, rfl, rfl, absurd rfl h, rfl]
  | amend a =>
    show decodeRequest 0x15 fields = .error .badRequest
    have h20 : fields.length ≠ 20 := h
    iterate 20
      obtain _ | ⟨b, fields⟩ := fields
      exact rfl
    obtain _ | ⟨b, fields⟩ := fields
    exacts [absurd rfl h20, rfl]
  | create c =>
    show decodeRequest 0x10 fields = .error .badRequest
    have h26 : fields.length ≠ 26 := h
    iterate 26
      obtain _ | ⟨b, fields⟩ := fields
      exact rfl
    obtain _ | ⟨b, fields⟩ := fields
    exacts [absurd rfl h26, rfl]

/-- A request of each code of the catalogue (R170). -/
def oneOfEachCode : List Request :=
  [.openSession, .closeSession, .status, .readLines, .create ⟨0, 0, 0, 0, 0, ⟨0, 0⟩, 0, ⟨0, 0⟩, 0, 0, 0, 0, 0, 0, 0, 0, 0⟩, .arm ⟨0, 0⟩,
    .fire ⟨0, 0⟩, .renew ⟨0, 0⟩, .release ⟨0, 0⟩, .amend ⟨⟨0, 0⟩, 0, 0, 0, 0, 0, 0, 0, 0, 0, 0, 0⟩, .retire ⟨0, 0⟩, .query ⟨0, 0⟩,
    .listTable 0, .nextAttention, .ackQuench, .revoke ⟨0, 0⟩, .setTimebase 0 0 0 0, .startTimebase 0, .stopTimebase 0, .setInput 0 0 0,
    .setLine 0 0 0 0 0 0, .setGroup 0 0 0 0, .lockLine 0, .clearLine 0, .setQuota 0 0, .quenchSet, .quenchClear, .clearTable]

/-- The codes below the last of the catalogue that are in none of its rows. -/
def codeGaps : List Nat := [0, 5, 6, 7, 8, 9, 10, 11, 12, 13, 14, 15, 27, 28, 29, 30, 31]

theorem code_mem_or_gap : ∀ n < 45, n ∈ codeGaps ∨ ∃ r ∈ oneOfEachCode, r.code.toNat = n := by decide

/-- A code that is no request's is refused BAD_REQUEST. -/
theorem decodeRequest_unknown {code : Byte} (fields : List Byte) (h : ∀ r : Request, r.code ≠ code) :
    decodeRequest code fields = .error .badRequest := by
  by_cases hhigh : 45 ≤ code.toNat
  · obtain ⟨m, hm⟩ := Nat.exists_eq_add_of_le' hhigh
    unfold decodeRequest
    rw [hm]
    rfl
  · obtain hgap | ⟨r, -, hr⟩ := code_mem_or_gap code.toNat (Nat.lt_of_not_le hhigh)
    · have hcode : code = BitVec.ofNat 8 code.toNat := by simp
      rw [hcode]
      generalize code.toNat = n at hgap
      fin_cases hgap <;> rfl
    · exact absurd (BitVec.eq_of_toNat_eq hr) (h r)

/-- Fields of no request are refused BAD_REQUEST. -/
theorem decodeRequest_of_none {code : Byte} {fields : List Byte}
    (hnone : ∀ r : Request, r.code = code → r.fields.length ≠ fields.length) : decodeRequest code fields = .error .badRequest := by
  by_cases hcode : ∃ r : Request, r.code = code
  · obtain ⟨r, rfl⟩ := hcode
    exact decodeRequest_otherLength r (hnone r rfl).symm
  · exact decodeRequest_unknown fields fun r hc => hcode ⟨r, hc⟩

theorem length_of_ackCode {r : Request} (h : r.code = 0x1A) : r.fields.length = 4 := by
  cases r with
  | ackPermit | ackLine | ackQuench => rfl
  | _ => cases h

/-- Decoding refuses BAD_REQUEST, or BAD_FIELD an ACK of no known target kind. -/
theorem decodeRequest_error {code : Byte} {fields : List Byte} {st : Status} (h : decodeRequest code fields = .error st) :
    (st = .badRequest ∧ ∀ r : Request, r.code = code → r.fields.length ≠ fields.length) ∨
      (st = .badField ∧ code = 0x1A ∧ fields.length = 4 ∧ ∀ k ∈ fields.head?, k ≠ 1 ∧ k ≠ 2 ∧ k ≠ 3) := by
  by_cases hr : ∃ r : Request, r.code = code ∧ r.fields.length = fields.length
  · obtain ⟨r, rfl, hlen⟩ := hr
    by_cases hack : r.code = 0x1A
    · have hr4 := length_of_ackCode hack
      rw [hack] at h ⊢
      match fields, hlen.symm.trans hr4 with
      | [k, a, b, c], _ =>
        obtain ⟨hst, hkind⟩ := decodeAck_error.mp h
        exact .inr ⟨hst, rfl, rfl, fun k' hk' => Option.some.inj hk' ▸ hkind⟩
    · exact absurd h (decodeRequest_sameLength r hlen.symm hack)
  · have hnone : ∀ r : Request, r.code = code → r.fields.length ≠ fields.length := fun r hc hlen => hr ⟨r, hc, hlen⟩
    rw [decodeRequest_of_none hnone] at h
    exact .inl ⟨(Except.error.inj h).symm, hnone⟩

end Sys2Proof.Machine

open Sys2Proof Sys2Proof.Machine

set_option Elab.async false

/-- Settles O8: the frame check takes apart what the encoder puts together. -/
theorem parsedFramesAreEncodedFrames : Obligations.ParsedFramesAreEncodedFrames := by
  intro bytes f
  refine ⟨encodeFrame_of_parseFrame, ?_⟩
  rintro ⟨hlen, padding, rfl⟩
  exact parseFrame_encodeFrame hlen padding

/-- Settles O9: the frame of a request parses, and its fields decode. -/
theorem requestsDecodeAsEncoded : Obligations.RequestsDecodeAsEncoded := fun _ r padding =>
  ⟨parseFrame_encodeFrame (length_fields r) padding, decodeRequest_fields r⟩

/-- Settles O10: a refusal is one of two, each with its own cause. -/
theorem decodingRefusesByName : Obligations.DecodingRefusesByName := by
  intro code fields
  refine ⟨⟨fun hbad => ?_, decodeRequest_of_none⟩, ⟨fun hbad => ?_, fun ⟨hcode, hlen, hkind⟩ => ?_⟩, fun st hst => ?_⟩
  · obtain ⟨-, hnone⟩ | ⟨hst, -⟩ := decodeRequest_error hbad
    · exact hnone
    · cases hst
  · obtain ⟨hst, -⟩ | ⟨-, hack⟩ := decodeRequest_error hbad
    · cases hst
    · exact hack
  · subst hcode
    match fields, hlen with
    | [k, a, b, c], _ => exact decodeAck_error.mpr ⟨rfl, hkind k rfl⟩
  · exact (decodeRequest_error hst).imp And.left And.left

end

section
/-! SUPPORT. What a teardown and CLEAR_TABLE leave in the table, at the ports and of the groups (R147, R150, R151, R154, R155, R162). -/

namespace Sys2Proof.Machine

set_option Elab.async false

/-! ### What releases leave of a permit (R94, R96) -/

/-- A permit that has lost its references to what was retired stays through the releases. -/
theorem State.Grants.stays {s u t : State} {gone : SlotId → Bool} {j : SlotId} {q : Permit} (h : u.Grants t)
    (hu : u.slot j = { s.slot j with permit := some (s.unreferenced gone q) }) : s.Stays t gone j q := by
  obtain hj | ⟨q', hq', hblocked, hj⟩ := h j
  · exact ⟨by rw [hj, hu], .inl (by rw [State.permit, hj, hu])⟩
  · rw [State.permit, hu] at hq'
    cases hq'
    rw [State.state_unreferenced] at hblocked
    exact ⟨by rw [hj, hu], .inr ⟨hblocked, by rw [State.permit, hj]⟩⟩

/-- An EMPTY slot stays so through the releases. -/
theorem State.Grants.empty {u t : State} {j : SlotId} (h : u.Grants t) (hu : u.permit j = none) : t.slot j = u.slot j := by
  obtain hj | ⟨q, hq, -⟩ := h j
  · exact hj
  · rw [hu] at hq; cases hq

theorem State.Grants.settle {u t : State} (h : u.Grants t) : u.Grants t.settleLevels :=
  h.trans (.of_slots t.marks_settleLevels.slots)

/-- Raises reach no port on which nothing is owned (R135). -/
theorem State.Beat.attention_unowned {k : Scope} {s t : State} {p : Port} (h : State.Beat k s t) (hk : k.clears = false)
    (ho : ∀ i o, s.ownerAt i = some o → o.port ≠ p) : (t.port p).attention = (s.port p).attention := by
  cases h with
  | aside _ _ _ ports => rw [State.port_of_ports ports]
  | rerun => rfl
  | raise i n =>
    obtain he | ⟨q, o, hq, hqo, ⟨-, he⟩ | ⟨-, he⟩⟩ := s.raise_cases i n <;> rw [he]
    · rfl
    · have hne := ho i o ((State.ownerAt_of_permit hq).trans hqo)
      simp [State.appendEntry, hne]
  | ends => rfl
  | retire here orphan => rw [State.port_retire here, orphan.resolve_left (by simp [hk])]; rfl
  | orphans scope => simp [hk] at scope
  | closes scope => simp [hk] at scope

theorem State.Beats.attention_unowned {k : Scope} {s t : State} {p : Port} (h : State.Beats k s t) (hk : k.clears = false)
    (ho : ∀ i o, s.ownerAt i = some o → o.port ≠ p) : (t.port p).attention = (s.port p).attention := by
  induction h with
  | refl => rfl
  | tail hs hb ih => exact (hb.attention_unowned hk fun i o hi => ho i o (by rwa [State.Beats.ownerAt hs hk] at hi)).trans ih

/-! ### A teardown (R147, R150, R151) -/

/-- Written alike at one port, two states move as before. -/
theorem State.Moves.setPort {s t : State} {p : Port} {x y : PortUnit} (h : s.Moves t)
    (hy : y = { x with owned := y.owned, attention := y.attention }) : (s.setPort p x).Moves (t.setPort p y) where
  timebases := h.timebases
  inputs := h.inputs
  quenchLow := h.quenchLow
  latch := h.latch
  resetLow := h.resetLow
  lastServed := h.lastServed
  pending := h.pending
  line := h.line
  group := h.group
  port p' := by
    rw [State.port_setPort, State.port_setPort]
    split
    · exact hy
    · exact h.port p'

theorem State.setPort_setPort (s : State) (p : Port) (x y : PortUnit) : (s.setPort p x).setPort p y = s.setPort p y := by
  simp only [State.setPort, Vector.set_set]

theorem State.moves_tornDown (s : State) (p : Port) : State.Moves (s.setPort p { s.port p with isOpen := false }) (s.tornDown p) := by
  unfold State.tornDown
  dsimp only
  generalize hr : List.foldl State.stopAndRetire _ _ = retired
  have hmoves : s.Moves retired := by
    rw [← hr]
    exact (s.moves_mapSlots _).trans (State.moves_foldl (fun u i => (u.moves_detach i).trans (State.moves_retire _ i)) _ _)
  exact hmoves.setPort (by rw [hmoves.port p])

theorem State.moves_teardown (s : State) (p : Port) : State.Moves (s.setPort p { s.port p with isOpen := false }) (s.teardown p) :=
  (s.moves_tornDown p).trans (s.tornDown p).moves_releaseGroups

/-- A teardown leaves the port CLOSED, with nothing owned and an empty list (R150). -/
theorem State.port_teardown {s : State} (ho : s.OwnerLaw) (p : Port) :
    (s.teardown p).port p = { s.port p with isOpen := false, owned := 0, attention := [] } := by
  have hbeats := (s.tornDown p).beats_releaseGroups
  have howners : ∀ i o, (s.tornDown p).ownerAt i = some o → o.port ≠ p := by
    rintro i o hi rfl
    have hopen := (State.ownerLaw_iff.mp (ho.tornDown o.port) i o hi).1
    rw [State.port_tornDown, if_pos rfl] at hopen
    cases hopen
  have hport := (s.moves_teardown p).port p
  have howned := hbeats.owned rfl p
  have hlist := hbeats.attention_unowned rfl howners
  rw [State.port_tornDown, if_pos rfl] at howned hlist
  rw [State.port_setPort, if_pos rfl] at hport
  rw [← State.teardown_eq] at howned hlist
  rw [hport, howned, hlist]

theorem State.port_teardown_other (s : State) {p p' : Port} (h : p' ≠ p) :
    (s.teardown p).port p' = { s.port p' with attention := ((s.teardown p).port p').attention } := by
  have hport := (s.moves_teardown p).port p'
  have howned := (s.tornDown p).beats_releaseGroups.owned rfl p'
  rw [State.port_tornDown, if_neg h, ← State.teardown_eq] at howned
  rw [State.port_setPort, if_neg (Ne.symm h)] at hport
  rw [hport, howned]

theorem State.appends_teardown (s : State) {p p' : Port} (h : p' ≠ p) : (s.teardown p).Appends p' (s.port p').attention := by
  have happ := (s.tornDown p).beats_releaseGroups.appends rfl p'
  rwa [State.port_tornDown, if_neg h] at happ

/-- What a teardown does to the table stands through what leaves the slots and the other ports' lists alone. -/
theorem State.sessionLeaves_teardown {s t : State} {p : Port} (hslots : t.slots = (s.teardown p).slots)
    (hlists : ∀ p', p' ≠ p → (t.port p').attention = ((s.teardown p).port p').attention) : s.SessionLeaves t p := by
  have hgrants : (s.tornDown p).Grants t := (s.tornDown p).grants_releaseGroups.trans (.of_slots hslots)
  refine ⟨fun p' hp' => ?_, ?_⟩
  · have happ := s.appends_teardown hp'
    rwa [State.Appends, ← hlists p' hp'] at happ
  intro stopped hstopped i
  have hslot := s.slot_tornDown p i
  replace hstopped : stopped = s.stoppedOn p := hstopped
  subst hstopped
  refine ⟨fun hnone => ?_, fun hstop => ?_, fun q hq hstop => ?_⟩
  · rw [if_neg (by rw [State.stoppedOn, hnone]; exact Bool.false_ne_true), hnone] at hslot
    rw [hgrants.empty (by rw [State.permit, hslot]; rfl), hslot]
    exact (State.slot_of hnone).symm
  · rw [if_pos hstop] at hslot
    rw [State.permit, hgrants.empty (by rw [State.permit, hslot]), hslot]
    exact ⟨rfl, rfl⟩
  · rw [if_neg (by rw [hstop]; exact Bool.false_ne_true), hq] at hslot
    exact hgrants.stays hslot

/-- A break is a teardown of an open session and the reset of the port (R162). -/
theorem State.execBreak_eq {s : State} {p : Port} {x : ShiftOut} (hr : s.resetLow = false) (hx : (s.port p).transaction = some x) :
    exec (.breakPort p) s = .next (s.breakAt p) := by
  change execBreakPort p s = _
  rw [execBreakPort, State.outOfReset_high hr]
  simp only [hx]

/-- What a break finds torn down. -/
def State.torn (s : State) (p : Port) : State := if (s.port p).isOpen then s.teardown p else s

theorem State.torn_open {s : State} {p : Port} (h : (s.port p).isOpen = true) : s.torn p = s.teardown p := if_pos h

theorem State.torn_closed {s : State} {p : Port} (h : (s.port p).isOpen = false) : s.torn p = s :=
  if_neg (by rw [h]; exact Bool.false_ne_true)

/-- The port that a break resets (R162). -/
def PortUnit.broken (u : PortUnit) : PortUnit := { u with holder := .vacant, lastSeq := none, stored := .idle, transaction := none }

theorem State.breakAt_eq (s : State) (p : Port) :
    s.breakAt p = ((s.torn p).setPort p ((s.torn p).port p).broken).settleLevels := rfl

theorem State.moves_torn (s : State) (p : Port) : State.Moves (s.setPort p { s.port p with isOpen := false }) (s.torn p) := by
  cases h : (s.port p).isOpen with
  | true => rw [State.torn_open h]; exact s.moves_teardown p
  | false =>
    rw [State.torn_closed h]
    refine ⟨rfl, rfl, rfl, rfl, rfl, rfl, rfl, fun _ => rfl, fun _ => rfl, fun p' => ?_⟩
    rw [State.port_setPort]
    split
    · next hp => subst hp; rw [← h]
    · rfl

theorem State.moves_breakAt (s : State) (p : Port) :
    State.Moves (s.setPort p { s.port p with isOpen := false }.broken) (s.breakAt p) := by
  have hmoves := (s.moves_torn p).setPort (p := p) (x := { s.port p with isOpen := false }.broken) (y := ((s.torn p).port p).broken)
    (by rw [(s.moves_torn p).port p, State.port_setPort, if_pos rfl]; rfl)
  rw [State.setPort_setPort] at hmoves
  exact hmoves.trans (State.moves_settleLevels _)

theorem State.port_breakAt (s : State) (p p' : Port) :
    (s.breakAt p).port p' = if p = p' then ((s.torn p).port p).broken else (s.torn p).port p' := by
  rw [State.breakAt_eq]
  simp only [State.settleLevels, State.port_mapLines, State.port_setPort]

theorem State.settles_breakAt (s : State) (p : Port) : s.Settles (s.breakAt p) := by
  rw [State.breakAt_eq]
  refine State.settles_settleLevels fun l => ?_
  rw [State.line_setPort]
  cases h : (s.port p).isOpen with
  | true => rw [State.torn_open h]; exact (s.whole_teardown p).beats.levels l
  | false => rw [State.torn_closed h]; exact ⟨rfl, rfl⟩

/-- No permit of the session is left by its teardown (R150). -/
theorem State.ownerAt_teardown (s : State) (p : Port) (i : SlotId) :
    (s.teardown p).ownerAt i ≠ some { port := p, session := (s.port p).session } := by
  rw [State.teardown_eq, (s.tornDown p).beats_releaseGroups.ownerAt rfl, State.ownerAt_tornDown]
  split
  · exact nofun
  · next h => exact h

end Sys2Proof.Machine

open Sys2Proof Sys2Proof.Machine

set_option Elab.async false

/-- Settles O16: CLOSE is the teardown of its session. -/
theorem closeTearsDownSession : Obligations.CloseTearsDownSession := by
  intro s p f howners hturn
  refine ⟨fun hopen => ⟨(s.teardown p).settleLevels, ?_, ?_, ?_, ?_, fun p' hp' => ?_, ?_⟩, fun hclosed hlevels => ?_⟩
  · have hrun : s.runClose p = answer (s.teardown p) [byteOf (s.teardownCounts p).1, byteOf (s.teardownCounts p).2] := if_pos hopen
    exact congrArg Host.Outcome.next (State.execute_settled hturn (congrArg some hrun))
  · exact State.settles_settleLevels (s.whole_teardown p).beats.levels
  · exact (s.moves_teardown p).trans (s.teardown p).moves_settleLevels
  · exact State.port_teardown howners p
  · exact s.port_teardown_other hp'
  · exact State.sessionLeaves_teardown (s.teardown p).marks_settleLevels.slots fun p' _ => by
      rw [State.settleLevels, State.port_mapLines]
  · have hrun : s.runClose p = refuse s .noSession := if_neg (by rw [hclosed]; exact Bool.false_ne_true)
    exact congrArg Host.Outcome.next (State.execute_answered hlevels hturn (congrArg some hrun))

/-- Settles O7: a break is the teardown of an open session, and the reset of its port. -/
theorem breakResetsPort : Obligations.BreakResetsPort := by
  intro s p x howners hreset htransaction
  have hport := s.port_breakAt p p
  have hother : ∀ p', p' ≠ p → (s.breakAt p).port p' = (s.torn p).port p' := fun p' hp' => by
    rw [State.port_breakAt, if_neg (Ne.symm hp')]
  rw [if_pos rfl] at hport
  have hmoves := (s.moves_breakAt p).port p
  rw [State.port_setPort, if_pos rfl] at hmoves
  refine ⟨s.breakAt p, State.execBreak_eq hreset htransaction, s.settles_breakAt p, s.moves_breakAt p, by rw [hmoves]; rfl,
    by rw [hport]; rfl, by rw [hport]; rfl, by rw [hport]; rfl, by rw [hport]; rfl, by rw [hmoves]; rfl, by rw [hmoves]; rfl,
    fun p' hp' => ?_, fun hopen => ?_, fun hclosed => ?_⟩
  · rw [hother p' hp']
    cases hopen : (s.port p).isOpen with
    | true => rw [State.torn_open hopen]; exact s.port_teardown_other hp'
    | false => rw [State.torn_closed hopen]
  · have hslots : (s.breakAt p).slots = (s.teardown p).slots := by
      rw [State.breakAt_eq, (State.marks_settleLevels _).slots, State.torn_open hopen]; rfl
    rw [State.torn_open hopen] at hport hother
    refine ⟨by rw [hport, State.port_teardown howners]; rfl, by rw [hport, State.port_teardown howners]; rfl,
      State.sessionLeaves_teardown hslots fun p' hp' => by rw [hother p' hp'], fun i q hq hown => ?_⟩
    rw [State.permit_of_slots hslots] at hq
    exact s.ownerAt_teardown p i ((State.ownerAt_of_permit hq).trans hown)
  · rw [State.torn_closed hclosed] at hport hother
    refine ⟨?_, ?_, fun p' => ?_, by rw [hport]; rfl⟩
    · rw [State.breakAt_eq, (State.marks_settleLevels _).slots, State.torn_closed hclosed]; rfl
    · rw [State.breakAt_eq, State.torn_closed hclosed]; rfl
    · by_cases hp : p' = p
      · rw [hp, hport]; rfl
      · rw [hother p' hp]

end

section
/-! SUPPORT. Releases of groups without a queue, and what CLEAR_TABLE leaves (R94, R154, R155). -/

namespace Sys2Proof.Machine

set_option Elab.async false

/-! ### Releases without a queue (R94) -/

theorem State.holderReleased_iff {s : State} {g : GroupId} :
    s.holderReleased g = true ↔ ∃ l, (s.group g).state = .held l ∧ (s.line l).claims = 0 := by
  unfold State.holderReleased
  cases (s.group g).state <;> simp

theorem Group.released_held {x : Group} {l : LineId} (h : x.state = .held l) :
    x.released = if x.gap = 0 then .free else .gap x.gap := by rw [Group.released, h]

theorem Group.released_of_notHeld {x : Group} (h : ∀ l, x.state ≠ .held l) : x.released = x.state := by
  unfold Group.released
  cases hx : x.state with
  | held l => exact absurd hx (h l)
  | _ => rfl

/-- A group without a queue that takes its release is in GAP, or FREE (R94). -/
theorem State.releaseGroup_unqueued {s : State} {g : GroupId} {l : LineId} (hs : (s.group g).state = .held l)
    (hq : (s.group g).queue = []) : s.releaseGroup g = s.setGroup g { s.group g with state := (s.group g).released } := by
  rw [State.releaseGroup, Group.released_held hs]
  dsimp only
  split
  · next hgap =>
    unfold State.grant
    simp only [State.group_setGroup, if_true, hq]
  · rfl

/-- A group as it takes the release that is due at it, its queue left alone. -/
def State.unheld (s : State) (g : GroupId) : Group :=
  { s.group g with state := if s.holderReleased g = true then (s.group g).released else (s.group g).state }

theorem State.unheld_congr {s t : State} {g : GroupId} (hg : t.group g = s.group g) (hl : ∀ l, t.line l = s.line l) :
    t.unheld g = s.unheld g := by
  have hrel : t.holderReleased g = s.holderReleased g := by
    rw [Bool.eq_iff_iff, State.holderReleased_iff, State.holderReleased_iff, hg]
    simp only [hl]
  rw [State.unheld, State.unheld, hrel, hg]

/-- A group takes its release once. -/
theorem State.unheld_again {s t : State} {g : GroupId} (hg : t.group g = s.unheld g) (hl : ∀ l, t.line l = s.line l) :
    t.unheld g = s.unheld g := by
  by_cases hs : s.holderReleased g = true
  · obtain ⟨l, hheld, -⟩ := State.holderReleased_iff.mp hs
    have hnot : ∀ l', (t.group g).state ≠ .held l' := by
      intro l'
      rw [hg, State.unheld, if_pos hs]
      dsimp only
      rw [Group.released_held hheld]
      split <;> exact nofun
    rw [State.unheld, if_neg fun h => let ⟨l', h', _⟩ := State.holderReleased_iff.mp h; hnot l' h', hg]
  · have hsame : s.unheld g = s.group g := by rw [State.unheld, if_neg hs]
    exact State.unheld_congr (hg.trans hsame) hl

theorem State.releases_unqueued {xs : List GroupId} {s : State} (hq : ∀ g, (s.group g).queue = []) (g : GroupId) :
    (xs.foldl (fun s g => if s.holderReleased g then s.releaseGroup g else s) s).group g =
      if g ∈ xs then s.unheld g else s.group g := by
  induction xs generalizing s with
  | nil => simp
  | cons g' rest ih =>
    generalize ht : (if s.holderReleased g' then s.releaseGroup g' else s) = t
    have hstep : (∀ l, t.line l = s.line l) ∧ ∀ x, t.group x = if x = g' then s.unheld g' else s.group x := by
      rw [← ht]
      by_cases hr : s.holderReleased g' = true
      · obtain ⟨l, hheld, -⟩ := State.holderReleased_iff.mp hr
        rw [if_pos hr, State.releaseGroup_unqueued hheld (hq g')]
        refine ⟨fun _ => rfl, fun x => ?_⟩
        rw [State.group_setGroup, State.unheld, if_pos hr]
        by_cases hx : x = g'
        · rw [if_pos hx.symm, if_pos hx]
        · rw [if_neg (Ne.symm hx), if_neg hx]
      · rw [if_neg hr]
        refine ⟨fun _ => rfl, fun x => ?_⟩
        split
        · next hx => rw [hx, State.unheld, if_neg hr]
        · rfl
    obtain ⟨hline, hgroup⟩ := hstep
    have hqueue : ∀ x, (t.group x).queue = [] := fun x => by
      rw [hgroup]
      split
      · exact hq g'
      · exact hq x
    rw [List.foldl_cons, ht, ih hqueue]
    have hx := hgroup g
    by_cases hg : g = g'
    · subst hg
      rw [if_pos rfl] at hx
      rw [if_pos List.mem_cons_self, hx, State.unheld_again hx hline, ite_self]
    · rw [if_neg hg] at hx
      simp only [List.mem_cons, hg, false_or]
      rw [State.unheld_congr hx hline, hx]

/-- With every queue empty, each group whose holder is released is in GAP or FREE, and nothing else moves (R94, R99). -/
theorem State.group_releaseGroups_unqueued {s : State} (hq : ∀ g, (s.group g).queue = []) (g : GroupId) :
    s.releaseGroups.group g = s.unheld g := by
  have hfold := State.releases_unqueued (xs := s.freeGroups (allGroups.filter s.holderReleased)) (s := s.drawn) hq g
  rw [State.releaseGroups, hfold, State.freeGroups]
  have hdrawn : s.drawn.unheld g = s.unheld g := rfl
  rw [hdrawn, State.group_drawn]
  split
  · rfl
  · next hmem =>
    rw [mem_orderByKey, List.mem_filter] at hmem
    rw [State.unheld, if_neg fun h => hmem ⟨List.mem_finRange g, h⟩]

theorem State.unheld_of_unclaimed {s : State} (h : ∀ l, (s.line l).claims = 0) (g : GroupId) :
    s.unheld g = { s.group g with state := (s.group g).released } := by
  rw [State.unheld]
  split
  · rfl
  · next hr =>
    rw [Group.released_of_notHeld fun l hl => hr (State.holderReleased_iff.mpr ⟨l, hl, h l⟩)]

/-! ### What CLEAR_TABLE leaves (R154, R155) -/

/-- Permits that are let go keep the groups' states, and take the queues' match along. -/
theorem State.cleared_groups (s : State) : (s.QueuesMatch → s.cleared.QueuesMatch) ∧ (s.ClaimLaw → s.cleared.ClaimLaw) ∧
    ∀ g, s.cleared.group g = { s.group g with queue := (s.cleared.group g).queue } := by
  unfold State.cleared
  refine foldl_keeps (P := fun t : State => (s.QueuesMatch → t.QueuesMatch) ∧ (s.ClaimLaw → t.ClaimLaw) ∧
    ∀ g, t.group g = { s.group g with queue := (t.group g).queue }) (fun t i ht => ?_) _ ⟨id, id, fun _ => rfl⟩
  obtain ⟨hmatch, hclaim, hgroup⟩ := ht
  cases hp : t.permit i with
  | none => rw [State.stopAndRetire_none hp]; exact ⟨hmatch, hclaim, hgroup⟩
  | some p =>
    have hlets := State.letsGo_stopAndRetire hp
    exact ⟨fun h => hlets.queuesMatch (hmatch h), fun h => hlets.claimLaw (hclaim h), fun g => by
      rw [hlets.group g, hgroup g]⟩

theorem State.unqueued_of_noneBlocked {s : State} (hp : ∀ i q, s.permit i = some q → q.state ≠ .blocked) (hq : s.QueuesMatch)
    (g : GroupId) : (s.group g).queue = [] := by
  refine List.eq_nil_iff_forall_not_mem.mpr fun h hh => ?_
  obtain ⟨ls, hw, -⟩ := State.blockedOn_iff.mp (((hq g).2 h).mp hh)
  obtain ⟨q, hq', hb, -⟩ := State.waitingAt_eq_some.mp hw
  exact hp _ q hq' hb

theorem State.unclaimed_of_noneActive {s : State} (hp : ∀ i q, s.permit i = some q → q.state ≠ .active) (hc : s.ClaimLaw) (l : LineId) :
    (s.line l).claims = 0 := by
  rw [State.claimLaw_iff.mp hc l, List.length_eq_zero_iff, List.filter_eq_nil_iff]
  intro i _
  cases hq : s.permit i with
  | none => simp [State.claimsAt, hq]
  | some q => rw [State.claimsAt_of_ne hq (hp i q hq)]; exact Bool.false_ne_true

theorem State.noPermit_cleared (s : State) {P : Permit → Prop} (i : SlotId) (q : Permit) (h : s.cleared.permit i = some q) : P q := by
  rw [State.permit_cleared] at h; cases h

theorem State.slot_clearAll (s : State) (i : SlotId) : s.clearAll.slot i = s.cleared.slot i :=
  s.cleared.grants_releaseGroups.empty (s.permit_cleared i)

theorem State.moves_clearAll (s : State) : s.Moves s.clearAll :=
  State.Moves.trans (State.moves_foldl (fun u i => (u.moves_detach i).trans (State.moves_retire _ i)) _ s) (State.moves_releaseGroups _)

theorem State.owner_cleared (s : State) (i : SlotId) (o : Owner) : s.cleared.ownerAt i ≠ some o := by
  rw [State.ownerAt, State.permit_cleared]; exact nofun

theorem State.owned_clearAll {s : State} (ho : s.OwnerLaw) (hc : s.CountLaw) (p : Port) : (s.clearAll.port p).owned = 0 := by
  rw [State.clearAll_eq, s.cleared.beats_releaseGroups.owned rfl, State.port_cleared]
  dsimp only
  rw [State.length_ownedOn ho hc, Nat.sub_self]

/-- In a state that keeps the lists' law the entries that go are those of permits, all of them. -/
theorem State.attention_clearAll {s : State} (h : s.ListLaw) (p : Port) : (s.clearAll.port p).attention =
    (s.port p).attention.filter fun e => e.isQuench || allLines.any fun l => e.isLine l := by
  rw [State.clearAll_eq, s.cleared.beats_releaseGroups.attention_unowned rfl fun i o hi => absurd hi (s.owner_cleared i o), State.port_cleared]
  refine List.filter_congr fun e he => ?_
  cases e with
  | quench => simp [Entry.isQuench]
  | line l c =>
    have hany : (allLines.any fun l' => (Entry.line l c).isLine l') = true :=
      List.any_eq_true.mpr ⟨l, List.mem_finRange l, decide_eq_true rfl⟩
    rw [hany]
    simp
  | permit x =>
    have hcount := (h.1 p).1 x
    have hpos := List.count_pos_iff.mpr he
    cases haw : s.awaits p x with
    | false => rw [hcount, haw, if_neg Bool.false_ne_true] at hpos; cases hpos
    | true =>
      obtain ⟨q, hr, hown, -⟩ := State.awaits_iff.mp haw
      obtain ⟨hx, hq⟩ := State.resolve_eq_some.mp hr
      have hmem : x.slot ∈ s.ownedOn (s.slotsWith fun _ => true) p :=
        List.mem_filter.mpr ⟨State.mem_occupied.mpr (by rw [hq]; rfl), by rw [State.ownerAt_of_permit hq, hown]; simp⟩
      have hgone : ¬∀ i ∈ s.ownedOn (s.slotsWith fun _ => true) p, Entry.permit x ≠ .permit (s.handle i) :=
        fun hall => hall x.slot hmem (by rw [← hx])
      rw [decide_eq_false hgone]
      simp [Entry.isQuench, Entry.isLine]

end Sys2Proof.Machine

open Sys2Proof Sys2Proof.Machine

set_option Elab.async false

/-- Settles O17: the table is emptied before the groups take their releases, so that none has a queue. -/
theorem clearTableEmptiesTable : Obligations.ClearTableEmptiesTable := by
  intro s p f hturn hsup
  obtain ⟨hqueues, hclaims, hgroups⟩ := s.cleared_groups
  have hunqueued : s.QueueLaw → ∀ g, (s.cleared.group g).queue = [] := fun hq =>
    State.unqueued_of_noneBlocked s.noPermit_cleared (hqueues (State.queueLaw_iff.mp hq).1)
  have hslot : ∀ i, s.clearAll.settleLevels.slot i = s.cleared.slot i := fun i =>
    (State.slot_of_slots (State.marks_settleLevels _).slots i).trans (s.slot_clearAll i)
  have hgroup : ∀ g, s.clearAll.settleLevels.group g = s.cleared.releaseGroups.group g := (State.marks_settleLevels _).group
  have hport : ∀ x, s.clearAll.settleLevels.port x = s.clearAll.port x := fun x => by rw [State.settleLevels, State.port_mapLines]
  refine ⟨s.clearAll.settleLevels, congrArg Host.Outcome.next (hsup.execute_settled hturn rfl rfl),
    s.moves_clearAll.trans (State.moves_settleLevels _), State.settles_settleLevels s.whole_clearAll.beats.levels, fun i => ?_,
    fun hc l => ?_, fun ho hcount x => ?_, fun ho hlist x => ?_, fun hq g => ?_, fun he hq g => ?_⟩
  · rw [State.permit, hslot, State.slot_cleared]
    exact ⟨rfl, rfl⟩
  · have hclaim : s.clearAll.ClaimLaw := s.whole_clearAll.via.claimLaw hc
    have hzero : (s.clearAll.line l).claims = 0 := State.unclaimed_of_noneActive
      (fun i q hq => s.noPermit_cleared (P := fun q => q.state ≠ .active) i q (by rwa [State.permit, State.slot_clearAll] at hq)) hclaim l
    rw [State.line_settleLevels, Line.settle_asserted, Line.settle_claims, hzero]
    exact ⟨rfl, rfl⟩
  · rw [hport, State.owned_clearAll ho hcount]
  · rw [hport, State.attention_clearAll hlist]
  · rw [hgroup, State.group_releaseGroups_unqueued (hunqueued hq)]
    exact hunqueued hq g
  · have hclaim : s.cleared.ClaimLaw := hclaims he.1
    rw [hgroup, State.group_releaseGroups_unqueued (hunqueued hq),
      State.unheld_of_unclaimed (State.unclaimed_of_noneActive s.noPermit_cleared hclaim), hgroups g]
    rfl

end

section
/-! SUPPORT. What abnormal ends leave (R38, R63, R64, R94, R153): the permits that end, their waiting successors down the chain, and the
rest. -/

namespace Sys2Proof.Machine

set_option Elab.async false

/-! ### Releases beside the end of a permit (R94) -/

theorem Permit.dropReference_granted (q : Permit) (h : Handle) : q.granted.dropReference h = (q.dropReference h).granted := by
  cases ho : q.owner with
  | some o =>
    have hq : q.owner ≠ none := by rw [ho]; exact nofun
    have hg : q.granted.owner ≠ none := by rw [Permit.granted, Permit.owner_raised]; exact hq
    rw [Permit.dropReference_owned h hq, Permit.dropReference_owned h hg]
  | none =>
    unfold Permit.granted Permit.raised Permit.dropReference
    simp [ho]

/-- A notice at a permit that no release reaches. -/
theorem State.Grants.raise {x y : State} {i : SlotId} (h : x.Grants y) (hi : ∀ q, x.permit i = some q → q.state ≠ .blocked)
    (n : Notice) : (x.raise i n).Grants (y.raise i n) := by
  intro j
  by_cases hj : i = j
  · subst hj
    have hsame : y.slot i = x.slot i := by
      obtain hs | ⟨q, hq, hb, -⟩ := h i
      · exact hs
      · exact absurd hb (hi q hq)
    left
    rw [State.slot_of rfl, State.slot_of (s := x.raise i n) rfl, State.permit_raise_any, State.permit_raise_any, if_pos rfl, if_pos rfl,
      State.gen_raise, State.gen_raise, hsame, State.permit, State.permit, hsame]
  · rw [State.permit, State.slot_raise _ hj, State.slot_raise _ hj]
    exact h j

/-- The retirement of an orphan that no release reaches. -/
theorem State.Grants.retireIfOrphan {x y : State} {i : SlotId} (h : x.Grants y) (hi : ∀ q, x.permit i = some q → q.state ≠ .blocked) :
    (x.retireIfOrphan i).Grants (y.retireIfOrphan i) := by
  have hsame : y.slot i = x.slot i := by
    obtain hs | ⟨q, hq, hb, -⟩ := h i
    · exact hs
    · exact absurd hb (hi q hq)
  have hpermit : y.permit i = x.permit i := by rw [State.permit, hsame]; rfl
  unfold State.retireIfOrphan
  rw [hpermit]
  cases hp : x.permit i with
  | none => exact h
  | some p =>
    dsimp only
    cases p.owner with
    | some o => exact h
    | none =>
      intro j
      rw [State.slot_retire_any hp, State.slot_retire_any (hpermit.trans hp), State.permit_retire_any hp]
      by_cases hj : i = j
      · subst hj
        rw [if_pos rfl, if_pos rfl, hsame]
        exact .inl rfl
      · rw [if_neg hj, if_neg hj, if_neg hj]
        have hhandle : y.handle i = x.handle i := by rw [State.handle, State.handle, hsame]
        obtain hs | ⟨q, hq, hb, hs⟩ := h j
        · left; rw [State.permit, hs, hhandle]; rfl
        · refine .inr ⟨q.dropReference (x.handle i), by rw [hq]; rfl, by rw [Permit.state_dropReference]; exact hb, ?_⟩
          rw [State.permit, hs, hhandle]
          dsimp only
          rw [Option.map_some, Permit.dropReference_granted]

/-! ### One abnormal end (R38, R63) -/

/-- A permit without waiting successors ends alone. -/
theorem State.endsBy_endOne {s : State} {i : SlotId} {p : Permit} (here : s.permit i = some p) (r : EndReason)
    (halone : s.waitingSuccessors (s.handle i) = []) : s.EndsBy (s.endOne i r) [(i, r)] fun j => if j = i then some r else none := by
  have hup : s.upstreamOf i r [] = [] := by
    refine List.eq_nil_iff_forall_not_mem.mpr fun w hw => ?_
    obtain ⟨-, -, q, hq, htrigger, hwaits⟩ := State.mem_upstreamOf.mp hw
    obtain ⟨hne, -⟩ := State.upstreamOf_fresh hw
    rw [State.permit_ended_of_ne hne] at hq
    have hmem : w.1 ∈ s.waitingSuccessors (s.handle i) := by
      rw [State.waitingSuccessors_eq, State.successors_eq, List.mem_filter, List.mem_filter, hq]
      exact ⟨⟨List.mem_finRange _, decide_eq_true htrigger⟩, hwaits⟩
    rw [halone] at hmem
    cases hmem
  have hstep := (State.endsBy_done (s.endOne i r))
  refine State.EndsBy.step (rest := []) ?_ (.refl _) (by simp) here
  rw [hup]
  exact hstep

/-- An abnormal end, and the releases after it. -/
theorem State.endsBy_endAbnormal {s : State} {i : SlotId} {p : Permit} (here : s.permit i = some p) (r : EndReason) :
    ∃ why u, s.EndsBy u [(i, r)] why ∧ u.Grants (s.endAbnormal i r) := by
  unfold State.endAbnormal
  split
  · next halone =>
    refine ⟨_, _, State.endsBy_endOne here r (List.isEmpty_iff.mp halone), ?_⟩
    have hended : ∀ q, (s.enterEnded i r).permit i = some q → q.state ≠ .blocked := fun q hq => by
      rw [State.permit_enterEnded_ended hq]; exact nofun
    have hraised : ∀ q, ((s.enterEnded i r).raise i .ended).permit i = some q → q.state ≠ .blocked := fun q hq => by
      rw [State.permit_enterEnded_any here] at hq
      cases hq
      rw [Permit.state_raised]
      exact nofun
    exact ((s.enterEnded i r).grants_releaseGroups.raise hended .ended).retireIfOrphan hraised
  · obtain ⟨why, hends⟩ := State.endsBy_endMany (s := s) (work := [(i, r)]) (by simp) (by simp [here])
    exact ⟨why, _, hends, State.grants_releaseGroups _⟩

theorem PState.not_running_of_awaitingTrigger {x : PState} (h : x.awaitingTrigger = true) : x.running = false := by
  cases x with
  | arming | armed => rfl
  | _ => cases h

/-! ### What the ends leave, through the releases (R38, R63, R64) -/

section
variable {s u t : State} {work : List (SlotId × EndReason)} {why : SlotId → Option EndReason} (h : s.EndsBy u work why)
  (hg : u.Grants t)
include h hg

/-- A permit that ends reads its end, whatever is released after. -/
theorem State.EndsBy.endsAs {i : SlotId} {q : Permit} {r : EndReason} (hq : s.permit i = some q) (hw : why i = some r) :
    s.EndsAs t i q r := by
  have hslot := h.slots i
  rw [hw] at hslot
  dsimp only at hslot
  rw [Slot.endedBy, show (s.slot i).permit = some q from hq] at hslot
  dsimp only at hslot
  have hsame : t.slot i = u.slot i := by
    obtain hs | ⟨q', hq', hb, -⟩ := hg i
    · exact hs
    · rw [State.permit, hslot] at hq'
      split at hq'
      · cases hq'
      · cases hq'; cases hb
  rw [State.EndsAs, State.permit, hsame, hslot]
  split
  · exact ⟨rfl, rfl⟩
  · exact ⟨rfl, rfl⟩

/-- A permit that does not end stays. -/
theorem State.EndsBy.stays {j : SlotId} {q : Permit} (hq : s.permit j = some q) (hw : why j = none) :
    s.Stays t (s.orphansOf fun k => (why k).isSome) j q := by
  have hslot := h.slots j
  rw [hw, hq] at hslot
  exact hg.stays hslot

omit h hg in
/-- A permit that stays in a slot reads no end. -/
theorem State.Stays.not_endsAs {gone : SlotId → Bool} {j : SlotId} {q : Permit} {r : EndReason} (h : s.Stays t gone j q)
    (ho : q.owner ≠ none) (hs : q.state ≠ .ended) : ¬s.EndsAs t j q r := by
  intro hends
  rw [State.EndsAs, if_neg ho] at hends
  obtain ⟨-, hstay | ⟨-, hgranted⟩⟩ := h
  · rw [hends.1, Option.some.injEq] at hstay
    have := congrArg Permit.state hstay
    rw [State.state_unreferenced] at this
    exact hs this.symm
  · rw [hends.1, Option.some.injEq] at hgranted
    have := congrArg Permit.state hgranted
    rw [Permit.state_granted] at this
    cases this

/-- A permit that ends leaves its slot changed. -/
theorem State.EndsBy.slot_ne {i : SlotId} {q : Permit} {r : EndReason} (hq : s.permit i = some q) (hs : q.state ≠ .ended)
    (hw : why i = some r) : t.slot i ≠ s.slot i := by
  intro hsame
  have hends := h.endsAs hg hq hw
  rw [State.EndsAs] at hends
  have hqt : t.permit i = some q := by rw [State.permit, hsame]; exact hq
  split at hends
  · rw [hends.1] at hqt; cases hqt
  · rw [hends.1] at hqt
    exact hs (congrArg Permit.state (Option.some.inj hqt)).symm

end

/-- The ends with which a happening begins are those named, each of a permit. -/
structure State.Begins (s : State) (work : List (SlotId × EndReason)) (ends : SlotId → Bool) : Prop where
  named : ∀ i, ends i = true ↔ ∃ r, (i, r) ∈ work
  permits : ∀ i, ends i = true → (s.permit i).isSome = true

/-- What abnormal ends do to the others (R63, R64, R94). -/
theorem State.EndsBy.endsLeave {s u t : State} {work : List (SlotId × EndReason)} {why : SlotId → Option EndReason} {ends : SlotId → Bool}
    (h : s.EndsBy u work why) (hg : u.Grants t) (hb : s.Begins work ends) : s.EndsLeave t ends := by
  have hbegun : ∀ i, ends i = true → why i ≠ none := fun i hi => by
    obtain ⟨r, hr⟩ := (hb.named i).mp hi
    rw [h.begins _ hr]
    exact nofun
  have honly : ∀ j r, ends j = false → why j = some r → r = .upstream ∧ ∃ i q, why i ≠ none ∧ s.permit j = some q ∧
      q.state.awaitingTrigger = true ∧ q.trigger = .chain (some (s.handle i)) := by
    intro j r hj hr
    refine (h.only j r hr).resolve_left fun hmem => ?_
    rw [(hb.named j).mpr ⟨r, hmem⟩] at hj
    cases hj
  constructor
  case upstream =>
    intro i j q r hq hr hj ho hwaits hfollows hcause
    have hi : why i ≠ none := by
      obtain hi | ⟨hqw, hqo, hends⟩ := hcause
      · exact hbegun i hi
      · exact fun hnone => (h.stays hg hq hnone).not_endsAs hqo (by intro he; rw [he] at hqw; cases hqw) hends
    obtain ⟨r', hr'⟩ := Option.ne_none_iff_exists'.mp (h.closed i j r hi hr ho hwaits hfollows)
    rw [(honly j r' hj hr').1] at hr'
    exact h.endsAs hg hr hr'
  case waiting =>
    intro j r hr hj ho hwaits hothers
    cases hw : why j with
    | some r' =>
      obtain ⟨-, i, q, hi, hq, -, hfollows⟩ := honly j r' hj hw
      rw [hr] at hq
      cases hq
      obtain ⟨ri, hri⟩ := Option.ne_none_iff_exists'.mp hi
      cases hei : ends i with
      | true =>
        obtain ⟨qi, hqi⟩ := Option.isSome_iff_exists.mp (hb.permits i hei)
        rw [(hothers i qi hqi hfollows).1] at hei
        cases hei
      | false =>
        obtain ⟨-, -, qi, -, hqi, hqiw, -⟩ := honly i ri hei hri
        have hsame := (hothers i qi hqi hfollows).2 hqiw
        exact absurd hsame (h.slot_ne hg hqi (by intro he; rw [he] at hqiw; cases hqiw) hri)
    | none =>
      obtain ⟨hgen, hstay | ⟨hblocked, -⟩⟩ := h.stays hg hr hw
      · rw [State.unreferenced_owned ho] at hstay
        rw [State.slot_of hstay, hgen]
        exact (State.slot_of hr).symm
      · rw [hblocked] at hwaits; cases hwaits
  case others =>
    intro j r hr hj hwaits horphan
    have hw : why j = none := by
      cases hw : why j with
      | none => rfl
      | some r' =>
        obtain ⟨-, i, q, -, hq, hqw, -⟩ := honly j r' hj hw
        rw [hr] at hq
        cases hq
        rw [hwaits] at hqw
        cases hqw
    have hstay := h.stays hg hr hw
    have hsame : s.unreferenced (s.orphansOf fun k => (why k).isSome) r = s.unreferenced (s.orphansOf ends) r := by
      obtain ho | hlaw := horphan
      · rw [State.unreferenced_owned ho, State.unreferenced_owned ho]
      · congr 1
        funext k
        rw [Bool.eq_iff_iff, State.orphansOf_eq, State.orphansOf_eq]
        refine ⟨fun ⟨hk, q, hq, ho⟩ => ⟨?_, q, hq, ho⟩, fun ⟨hk, hq⟩ => ⟨Option.isSome_iff_ne_none.mpr (hbegun k hk), hq⟩⟩
        by_contra hek
        obtain ⟨rk, hrk⟩ := Option.isSome_iff_exists.mp hk
        obtain ⟨-, -, qk, -, hqk, hqw, -⟩ := honly k rk (by simpa using hek) hrk
        rw [hq] at hqk
        cases hqk
        have hruns := hlaw k q hq ho
        rw [PState.not_running_of_awaitingTrigger hqw] at hruns
        cases hruns
    unfold State.Stays at hstay ⊢
    rwa [hsame] at hstay
  case empty =>
    intro j hj
    have hw : why j = none := by
      cases hw : why j with
      | none => rfl
      | some r' =>
        cases hej : ends j with
        | true => have := hb.permits j hej; rw [hj] at this; cases this
        | false =>
          obtain ⟨-, -, q, -, hq, -⟩ := honly j r' hej hw
          rw [hj] at hq; cases hq
    have hslot := h.slots j
    rw [hw, hj] at hslot
    rw [hg.empty (by rw [State.permit, hslot]; rfl), hslot]
    exact (State.slot_of hj).symm

theorem State.begins_single {s : State} {i : SlotId} {p : Permit} (here : s.permit i = some p) (r : EndReason) :
    s.Begins [(i, r)] fun k => k = i where
  named k := by simp [eq_comm]
  permits k hk := by rw [of_decide_eq_true hk, here]; rfl

/-- What the abnormal end of one permit leaves in the slots. -/
theorem State.leaves_endAbnormal {s t : State} {i : SlotId} {p : Permit} (here : s.permit i = some p) (r : EndReason)
    (ht : t.slots = (s.endAbnormal i r).slots) : s.EndsAs t i p r ∧ s.EndsLeave t fun k => k = i := by
  obtain ⟨why, u, hends, hgrants⟩ := State.endsBy_endAbnormal here r
  have hgt := hgrants.trans (.of_slots ht)
  exact ⟨hends.endsAs hgt here (hends.begins _ List.mem_cons_self), hends.endsLeave hgt (State.begins_single here r)⟩

theorem State.beats_endAbnormal (s : State) (i : SlotId) (r : EndReason) : State.Beats .ends s (s.endAbnormal i r) :=
  (State.whole_endAbnormal rfl s i r).beats

theorem State.appends_settle {s t : State} {p : Port} (h : t.Appends p (s.port p).attention) :
    t.settleLevels.Appends p (s.port p).attention := by
  rwa [State.Appends, State.settleLevels, State.port_mapLines]

/-! ### Where the record that ends was written before (R27, R36) -/

/-- Two states that differ in the records of permits that end, and there in what no end shows to others. -/
structure State.Twins (s s' : State) (ends : SlotId → Bool) : Prop where
  gen : ∀ j, (s'.slot j).gen = (s.slot j).gen
  permit : ∀ j, ends j = false → s'.permit j = s.permit j
  shown : ∀ j, (s'.permit j).map (fun q => (q.owner, q.state)) = (s.permit j).map fun q => (q.owner, q.state)

section
variable {s s' t : State} {ends : SlotId → Bool} (h : s.Twins s' ends)
include h

theorem State.Twins.slot {j : SlotId} (hj : ends j = false) : s'.slot j = s.slot j := by
  rw [State.slot_of (h.permit j hj), h.gen]
  exact (State.slot_of rfl).symm

theorem State.Twins.handle (j : SlotId) : s'.handle j = s.handle j := by rw [State.handle, State.handle, h.gen]

theorem State.Twins.some_of {j : SlotId} {q : Permit} (hq : s.permit j = some q) :
    ∃ q', s'.permit j = some q' ∧ q'.owner = q.owner ∧ q'.state = q.state := by
  have hs := h.shown j
  rw [hq] at hs
  obtain ⟨q', hq', he⟩ := Option.map_eq_some_iff.mp hs
  exact ⟨q', hq', congrArg Prod.fst he, congrArg Prod.snd he⟩

theorem State.Twins.of_some {j : SlotId} {q' : Permit} (hq : s'.permit j = some q') :
    ∃ q, s.permit j = some q ∧ q'.owner = q.owner ∧ q'.state = q.state := by
  have hs := (h.shown j).symm
  rw [hq] at hs
  obtain ⟨q, hq', he⟩ := Option.map_eq_some_iff.mp hs
  exact ⟨q, hq', (congrArg Prod.fst he).symm, (congrArg Prod.snd he).symm⟩

theorem State.Twins.endsAs {j : SlotId} {q : Permit} {r : EndReason} : s'.EndsAs t j q r ↔ s.EndsAs t j q r := by
  rw [State.EndsAs, State.EndsAs, h.gen]

theorem State.Twins.follows {i : SlotId} {q : Permit} : s'.follows i q ↔ s.follows i q := by
  rw [State.follows, State.follows, h.handle]

theorem State.Twins.stays {j : SlotId} {q : Permit} (hs : s'.Stays t (s'.orphansOf ends) j q) : s.Stays t (s.orphansOf ends) j q := by
  have hgone : s'.orphansOf ends = s.orphansOf ends := funext fun k => by
    rw [Bool.eq_iff_iff, State.orphansOf_eq, State.orphansOf_eq]
    refine and_congr_right fun _ => ⟨fun ⟨q', hq', ho⟩ => ?_, fun ⟨q, hq, ho⟩ => ?_⟩
    · obtain ⟨q, hq, hqo, -⟩ := h.of_some hq'
      exact ⟨q, hq, hqo.symm.trans ho⟩
    · obtain ⟨q', hq', hqo, -⟩ := h.some_of hq
      exact ⟨q', hq', hqo.trans ho⟩
  have hsame : s'.unreferenced (s'.orphansOf ends) q = s.unreferenced (s.orphansOf ends) q :=
    State.unreferenced_congr (fun y => by rw [State.handleIn, State.handleIn, hgone, h.handle]) q
  rw [State.Stays, h.gen, hsame] at hs
  exact hs

theorem State.Twins.endsLeave (hl : s'.EndsLeave t ends) : s.EndsLeave t ends where
  upstream i j q r hq hr hj ho hwaits hfollows hcause := by
    obtain ⟨q', hq', -⟩ := h.some_of hq
    refine h.endsAs.mp (hl.upstream i j q' r hq' ((h.permit j hj).trans hr) hj ho hwaits (h.follows.mpr hfollows) ?_)
    cases hi : ends i with
    | true => exact .inl rfl
    | false =>
      rw [h.permit i hi, hq, Option.some.injEq] at hq'
      subst hq'
      rw [hi] at hcause
      exact hcause.imp id fun ⟨h1, h2, h3⟩ => ⟨h1, h2, h.endsAs.mpr h3⟩
  waiting j r hr hj ho hwaits hothers := by
    rw [hl.waiting j r ((h.permit j hj).trans hr) hj ho hwaits fun i q' hq' hfollows => ?_, h.slot hj]
    obtain ⟨q, hq, -, hstate⟩ := h.of_some hq'
    obtain ⟨hi, hsame⟩ := hothers i q hq (h.follows.mp hfollows)
    exact ⟨hi, fun hw => by rw [h.slot hi]; exact hsame (hstate ▸ hw)⟩
  others j r hr hj hwaits horphan := by
    refine h.stays (hl.others j r ((h.permit j hj).trans hr) hj hwaits (horphan.imp id fun hlaw k q' hq' ho => ?_))
    obtain ⟨q, hq, hqo, hqs⟩ := h.of_some hq'
    rw [hqs]
    exact hlaw k q hq (hqo.symm.trans ho)
  empty j hj := by
    have hj' : s'.permit j = none := Option.map_eq_none_iff.mp ((h.shown j).trans (by rw [hj]; rfl))
    rw [hl.empty j hj', State.slot_of hj', h.gen]
    exact (State.slot_of hj).symm

end

/-- The record of the one permit that ends, written in what its end does not show to others. -/
theorem State.twins_setPermit {s s' : State} {i : SlotId} {q q' : Permit} (hs : s'.slots = (s.setPermit i q').slots)
    (here : s.permit i = some q) (ho : q'.owner = q.owner) (hst : q'.state = q.state) : s.Twins s' fun k => k = i := by
  refine ⟨fun j => ?_, fun j hj => ?_, fun j => ?_⟩
  · rw [State.slot_of_slots hs, State.slot_setPermit]
    split
    · rfl
    · rfl
  · rw [State.permit_of_slots hs, State.permit_setPermit, if_neg (Ne.symm (of_decide_eq_false hj))]
  · rw [State.permit_of_slots hs, State.permit_setPermit]
    split
    · next h => rw [← h, here, Option.map_some, Option.map_some, ho, hst]
    · rfl

/-- What a taken happening leaves: all but the list of what is due. -/
structure State.Took (s s0 : State) : Prop where
  slots : s0.slots = s.slots
  line : ∀ l, s0.line l = s.line l
  port : ∀ p, s0.port p = s.port p
  group : ∀ g, s0.group g = s.group g
  moves : s.Moves s0

theorem State.took_due (s : State) (d : List Due) : s.Took { s with due := d } :=
  ⟨rfl, fun _ => rfl, fun _ => rfl, fun _ => rfl, s.moves_due d⟩

theorem State.Took.twins {s s0 : State} (h : s.Took s0) (ends : SlotId → Bool) : s.Twins s0 ends :=
  ⟨fun j => by rw [State.slot_of_slots h.slots], fun j _ => State.permit_of_slots h.slots j,
    fun j => by rw [State.permit_of_slots h.slots]⟩

/-- An edge that is taken is judged in the state that has lost it. -/
theorem State.exec_inputRenewal {s s0 : State} {i : SlotId} (hreset : s.resetLow = false) (hdue : Due.renewal (s.handle i) ∈ s.due)
    (hs0 : s0 = { s with due := s.due.erase (.renewal (s.handle i)) }) :
    exec (.inputRenewal i) s = .next (s0.takeRenewal i).settleLevels := by
  change execInputRenewal i s = _
  rw [execInputRenewal, State.outOfReset_high hreset, State.takeDue_mem hdue, hs0]

/-- An edge acts on an ACTIVE lease with an owner alone (R71). -/
theorem State.takeRenewal_passes {s : State} {i : SlotId} {q : Permit} (here : s.permit i = some q)
    (h : q.state ≠ .active ∨ q.owner = none) : s.takeRenewal i = s := by
  rw [State.takeRenewal, here]
  refine if_neg ?_
  simpa only [Bool.and_eq_true, decide_eq_true_eq, Option.isSome_iff_ne_none, ne_eq, not_and_or, not_not] using h

theorem State.takeRenewal_acts {s : State} {i : SlotId} {q : Permit} (here : s.permit i = some q) (hactive : q.state = .active)
    (howned : q.owner ≠ none) : s.takeRenewal i =
      if q.insideWindow then s.endAbnormal i .renewEarly else s.setPermit i { q with remaining := q.hold, renewalAge := 0 } := by
  rw [State.takeRenewal, here]
  exact if_pos (by simp [hactive, Option.isSome_iff_ne_none, howned])

end Sys2Proof.Machine

open Sys2Proof Sys2Proof.Machine

set_option Elab.async false

/-- Settles O35: REVOKE is one abnormal end. -/
theorem revokeEndsAbnormally : Obligations.RevokeEndsAbnormally := by
  intro s f h i q hturn hopen hnames hservice
  obtain ⟨hslot, hgen, here⟩ := hnames
  have hbeats := s.beats_endAbnormal i .revoked
  obtain ⟨hends, hleaves⟩ := State.leaves_endAbnormal here .revoked (s.endAbnormal i .revoked).marks_settleLevels.slots
  have hrun : s.runRevoke 0 h = answer (s.endAbnormal i .revoked) [] := by
    rw [State.runRevoke, State.withPermit, State.checkHandle_revoke hopen hslot hgen here]
    exact State.checked_passes (by simp [hservice])
  exact ⟨_, congrArg Host.Outcome.next (State.execute_settled hturn (congrArg some hrun)),
    (s.moves_endAbnormal i .revoked).trans (State.moves_settleLevels _), State.settles_settleLevels hbeats.levels, hends, hleaves,
    fun p => State.appends_settle (hbeats.appends rfl p)⟩

/-- Settles O49: the edge renews, ends the lease abnormally, or passes by. -/
theorem inputRenewalsAreTaken : Obligations.InputRenewalsAreTaken := by
  intro s i q s0 hreset here hdue hs0
  have htook : s.Took s0 := hs0 ▸ s.took_due _
  have here0 : s0.permit i = some q := (State.permit_of_slots htook.slots i).trans here
  rw [State.exec_inputRenewal hreset hdue hs0]
  refine ⟨fun hl hother => ?_, fun hl hactive howned hwindow => ?_, fun hactive howned hpos hinside => ?_⟩
  · rw [State.takeRenewal_passes here0 hother, State.settleLevels_eq (hl.of_lines htook.line)]
  · have hout : q.insideWindow = false := decide_eq_false (by omega)
    rw [State.takeRenewal_acts here0 hactive howned, hout, if_neg Bool.false_ne_true,
      State.settleLevels_eq (State.levelLaw_setPermit (hl.of_lines htook.line) i _)]
  · have hin : q.insideWindow = true := decide_eq_true ⟨hpos, hinside⟩
    rw [State.takeRenewal_acts here0 hactive howned, hin, if_pos rfl]
    have hbeats := s0.beats_endAbnormal i .renewEarly
    obtain ⟨hends, hleaves⟩ := State.leaves_endAbnormal here0 .renewEarly (s0.endAbnormal i .renewEarly).marks_settleLevels.slots
    have htwins := htook.twins fun k => decide (k = i)
    exact ⟨_, rfl, htook.moves.trans ((s0.moves_endAbnormal i .renewEarly).trans (State.moves_settleLevels _)),
      State.settles_settleLevels fun l => htook.line l ▸ hbeats.levels l, htwins.endsAs.mp hends,
      htwins.endsLeave hleaves, fun p => htook.port p ▸ State.appends_settle (hbeats.appends rfl p)⟩

end

section
/-! SUPPORT. What locks and quench onsets leave (R105 to R109, R112 to R116, R137). -/

namespace Sys2Proof.Machine

set_option Elab.async false

/-! ### Many ends of one reason (R107, R114) -/

theorem State.begins_all (s : State) (test : Permit → Bool) (r : EndReason) :
    s.Begins ((s.slotsWith test).map fun i => (i, r)) fun i => (s.permit i).any test where
  named i := by
    rw [Option.any_eq_true, ← State.mem_slotsWith]
    simp
  permits i hi := by
    obtain ⟨q, hq, -⟩ := (Option.any_eq_true _ _).mp hi
    rw [hq]; rfl

/-- What the ends of all permits of a kind leave in the slots, through the releases. -/
theorem State.leaves_endMany {s t : State} {test : Permit → Bool} {r : EndReason}
    (ht : t.slots = (s.endMany ((s.slotsWith test).map fun i => (i, r))).releaseGroups.slots) :
    (∀ i q, s.permit i = some q → test q = true → s.EndsAs t i q r) ∧ s.EndsLeave t fun i => (s.permit i).any test := by
  obtain ⟨why, hends⟩ := s.endsBy_all test r
  have hgrants := (State.grants_releaseGroups _).trans (.of_slots ht)
  refine ⟨fun i q hq htest => hends.endsAs hgrants hq (hends.begins (i, r) ?_), hends.endsLeave hgrants (s.begins_all test r)⟩
  exact List.mem_map.mpr ⟨i, State.mem_slotsWith.mpr ⟨q, hq, htest⟩, rfl⟩

theorem State.beats_ends_release (s : State) (work : List (SlotId × EndReason)) : State.Beats .ends s (s.endMany work).releaseGroups :=
  (State.whole_endMany_release rfl s work).beats

theorem State.moves_ends_release (s : State) (work : List (SlotId × EndReason)) : s.Moves (s.endMany work).releaseGroups :=
  (s.moves_endMany work).trans (State.moves_releaseGroups _)

/-! ### Entries of lines (R109, R137) -/

theorem State.setPort_self (s : State) (p : Port) : s.setPort p (s.port p) = s := by
  simp only [State.setPort, State.port]
  cases s
  simp

theorem State.placeLineEntry_eq (s : State) (l : LineId) (c : LockCause) :
    s.placeLineEntry l c = s.setPort 0 { s.port 0 with attention := (s.port 0).listWithLock l c } := by
  unfold State.placeLineEntry PortUnit.listWithLock
  dsimp only
  by_cases ho : (s.port 0).isOpen = true
  · have hne : ¬(s.port 0).isOpen = false := by rw [ho]; exact nofun
    rw [if_pos ho, if_neg hne]
    split
    · rfl
    · rfl
  · rw [if_neg ho, if_pos (Bool.eq_false_iff.mpr ho)]
    exact (s.setPort_self 0).symm

theorem PortUnit.mem_listWithLock {u : PortUnit} (ho : u.isOpen = true) (l : LineId) (c : LockCause) :
    Entry.line l c ∈ u.listWithLock l c := by
  unfold PortUnit.listWithLock
  rw [if_neg (by rw [ho]; exact nofun)]
  split
  · next hany =>
    obtain ⟨e, he, hl⟩ := List.any_eq_true.mp hany
    exact List.mem_map.mpr ⟨e, he, if_pos hl⟩
  · simp

/-! ### Locks (R107 to R109) -/

section
variable (s : State) (l : LineId) (c : LockCause)

theorem State.lockBy_eq : s.lockBy l c = ((s.marked l c).endMany
    (((s.marked l c).slotsWith fun p => p.state.inService && p.names l).map fun i => (i, .lineLocked))).releaseGroups := rfl

theorem State.marked_eq : s.marked l c = (s.setLine l { s.line l with condition := .locked c }).setPort 0
    { s.port 0 with attention := (s.port 0).listWithLock l c } := State.placeLineEntry_eq _ l c

theorem State.moves_lockBy : State.Moves (s.setLine l { s.line l with condition := .locked c }) (s.lockBy l c) :=
  (State.moves_placeLineEntry _ l c).trans (State.moves_ends_release _ _)

theorem State.settles_lockBy : State.Settles (s.setLine l { s.line l with condition := .locked c }) (s.lockBy l c).settleLevels := by
  refine State.settles_settleLevels fun l' => ?_
  have hlevels := (State.beats_ends_release (s.marked l c)
    (((s.marked l c).slotsWith fun p => p.state.inService && p.names l).map fun i => (i, .lineLocked))).levels l'
  rw [← State.lockBy_eq, State.marked_eq, State.line_setPort] at hlevels
  exact hlevels

/-- A line that a lock has put in LOCKED keeps its mismatch count (R104). -/
theorem State.mismatch_lockBy : ((s.lockBy l c).settleLevels.line l).mismatch = (s.line l).mismatch := by
  obtain ⟨-, hmismatch⟩ := s.settles_lockBy l c
  have hcondition : ((s.lockBy l c).settleLevels.line l).condition = .locked c := by
    rw [((s.moves_lockBy l c).trans (State.moves_settleLevels _)).line l]
    simp
  rw [hmismatch, if_pos (.inr (by rw [hcondition]; exact nofun))]
  simp

theorem State.appends_lockBy : (s.lockBy l c).settleLevels.Appends 0 ((s.port 0).listWithLock l c) := by
  have happ := (State.beats_ends_release (s.marked l c)
    (((s.marked l c).slotsWith fun p => p.state.inService && p.names l).map fun i => (i, .lineLocked))).appends rfl 0
  have hsettled := State.appends_settle happ
  rw [← State.lockBy_eq, State.marked_eq, State.port_setPort, if_pos rfl] at hsettled
  exact hsettled

theorem State.appends_lockBy_other {p : Port} (hp : p ≠ 0) : (s.lockBy l c).settleLevels.Appends p (s.port p).attention := by
  have happ := (State.beats_ends_release (s.marked l c)
    (((s.marked l c).slotsWith fun p => p.state.inService && p.names l).map fun i => (i, .lineLocked))).appends rfl p
  have hsettled := State.appends_settle happ
  rw [← State.lockBy_eq, State.marked_eq, State.port_setPort, if_neg (Ne.symm hp), State.port_setLine] at hsettled
  exact hsettled

theorem State.entry_lockBy (ho : (s.port 0).isOpen = true) : Entry.line l c ∈ ((s.lockBy l c).settleLevels.port 0).attention := by
  obtain ⟨more, hmore, -⟩ := s.appends_lockBy l c
  rw [hmore]
  exact List.mem_append_left _ (PortUnit.mem_listWithLock ho l c)

end

theorem State.Settles.of_lines {s s' t : State} (h : s.Settles t)
    (hl : ∀ l, (s'.line l).asserted = (s.line l).asserted ∧ (s'.line l).mismatch = (s.line l).mismatch) : s'.Settles t :=
  ⟨h.1, fun l => by rw [(hl l).1, (hl l).2]; exact h.2 l⟩

/-- States with the same slots tell the same of what ends. -/
theorem State.twins_of_slots {s s' : State} (h : s'.slots = s.slots) (ends : SlotId → Bool) : s.Twins s' ends :=
  ⟨fun j => by rw [State.slot_of_slots h], fun j _ => State.permit_of_slots h j, fun j => by rw [State.permit_of_slots h]⟩

/-- What a lock leaves in the slots, for every state with the slots of the one that it locks in. -/
theorem State.leaves_lockBy {s v : State} (h : v.slots = s.slots) (l : LineId) (c : LockCause) :
    (∀ i q, s.permit i = some q → ((s.permit i).any fun q => q.state.inService && q.names l) = true →
      s.EndsAs (v.lockBy l c).settleLevels i q .lineLocked) ∧
    s.EndsLeave (v.lockBy l c).settleLevels fun j => (s.permit j).any fun q => q.state.inService && q.names l := by
  have hslots : (v.marked l c).slots = s.slots := (v.marks_marked l c).slots.trans h
  have hpermit := State.permit_of_slots hslots
  obtain ⟨hends, hleaves⟩ := State.leaves_endMany (s := v.marked l c) (t := (v.lockBy l c).settleLevels)
    (test := fun p => p.state.inService && p.names l) (r := .lineLocked) (State.marks_settleLevels _).slots
  have htwins := State.twins_of_slots hslots fun j => (s.permit j).any fun q => q.state.inService && q.names l
  simp only [hpermit] at hends hleaves
  refine ⟨fun i q hq htest => htwins.endsAs.mp (hends i q hq ?_), htwins.endsLeave hleaves⟩
  rwa [hq, Option.any_some] at htest

end Sys2Proof.Machine

open Sys2Proof Sys2Proof.Machine

set_option Elab.async false

/-- Settles O40: both locks are the one lock of a line, the sense check's with the mismatch count raised before it. -/
theorem locksEndPermits : Obligations.LocksEndPermits := by
  intro s l named hnamed
  subst hnamed
  refine ⟨fun p f b hturn hsup hb hnormal => ?_, fun high hreset hdue hon hnormal hne htol => ?_⟩
  · obtain ⟨hends, hleaves⟩ := State.leaves_lockBy (s := s) rfl l .manual
    refine ⟨(s.lockBy l .manual).settleLevels, congrArg Host.Outcome.next (hsup.execute_settled hturn rfl ?_), ?_,
      (s.moves_lockBy l .manual).trans (State.moves_settleLevels _), s.mismatch_lockBy l .manual, s.entry_lockBy l .manual hsup.2,
      s.appends_lockBy l .manual, fun p' hp' => s.appends_lockBy_other l .manual hp', hends, hleaves⟩
    · rw [indexOf_eq_some.mpr hb]
      exact State.checked_passes (by simp [hnormal, Condition.isLocked])
    · refine (s.settles_lockBy l .manual).of_lines fun l' => ?_
      rw [State.line_setLine]
      split
      · next h => rw [h]; exact ⟨rfl, rfl⟩
      · exact ⟨rfl, rfl⟩
  · generalize hs0 : ({ s with due := s.due.erase (.lineTick (s.line l).checkTimebase l) } : State) = s0
    have htook : s.Took s0 := hs0 ▸ s.took_due _
    generalize hv : s0.setLine l { s.line l with mismatch := (s.line l).mismatch + 1 } = v
    have hvl : v.line l = { s.line l with mismatch := (s.line l).mismatch + 1 } := by rw [← hv, State.line_setLine, if_pos rfl]
    have hvo : ∀ l', l' ≠ l → v.line l' = s.line l' := fun l' h => by
      rw [← hv, State.line_setLine, if_neg (Ne.symm h), htook.line]
    have hvp : ∀ p, v.port p = s.port p := fun p => by rw [← hv, State.port_setLine, htook.port]
    have htick : s0.senseTick l high = v.lockBy l .sense := by
      unfold State.senseTick
      dsimp only
      rw [htook.line, if_pos (Line.checking_iff.mpr ⟨hon, hnormal⟩), if_neg hne, if_pos htol, hv]
    obtain ⟨hends, hleaves⟩ := State.leaves_lockBy (s := s) (v := v) (by rw [← hv]; exact htook.slots) l .sense
    refine ⟨(v.lockBy l .sense).settleLevels, ?_, ?_, ?_, ?_, fun ho => ?_, ?_, fun p' hp' => ?_, hends, hleaves⟩
    · rw [exec_senseLock hreset hdue (Line.locksOn_of hon hnormal hne htol), hs0, htick]
    · refine (v.settles_lockBy l .sense).of_lines fun l' => ?_
      rw [State.line_setLine, State.line_setLine, hvl]
      split
      · rw [htol]; exact ⟨rfl, rfl⟩
      · next h => rw [hvo l' (Ne.symm h)]; exact ⟨rfl, rfl⟩
    · refine State.Moves.trans ?_ ((v.moves_lockBy l .sense).trans (State.moves_settleLevels _))
      rw [hvl, ← hv]
      refine ⟨htook.moves.timebases, htook.moves.inputs, htook.moves.quenchLow, htook.moves.latch, htook.moves.resetLow,
        htook.moves.lastServed, htook.moves.pending, fun l' => ?_, htook.moves.group, htook.moves.port⟩
      by_cases h : l = l'
      · subst h
        simp only [State.line_setLine, if_true]
      · simp only [State.line_setLine, if_neg h]
        exact htook.moves.line l'
    · rw [v.mismatch_lockBy, hvl, htol]
    · exact v.entry_lockBy l .sense ((hvp 0).symm ▸ ho)
    · rw [← hvp]; exact v.appends_lockBy l .sense
    · rw [← hvp]; exact v.appends_lockBy_other l .sense hp'

end

section
/-! SUPPORT. Groups while permits are taken off their claims and out of their queues, and what quench onsets leave (R94, R99, R112 to
R116). -/

namespace Sys2Proof.Machine

set_option Elab.async false

/-! ### Groups while permits let go (R98, R99) -/

/-- Permits have let go of claims and queue places, and no group has taken a release or an activation request. -/
structure State.Drops (s t : State) : Prop where
  group : ∀ g, ∃ q, q.Sublist (s.group g).queue ∧ t.group g = { s.group g with queue := q }
  queuesMatch : s.QueuesMatch → t.QueuesMatch
  claimLaw : s.ClaimLaw → t.ClaimLaw

theorem State.Drops.trans {s t u : State} (h : s.Drops t) (k : t.Drops u) : s.Drops u where
  group g := by
    obtain ⟨q, hq, hg⟩ := h.group g
    obtain ⟨q', hq', hg'⟩ := k.group g
    rw [hg] at hq' hg'
    exact ⟨q', hq'.trans hq, hg'⟩
  queuesMatch hq := k.queuesMatch (h.queuesMatch hq)
  claimLaw hc := k.claimLaw (h.claimLaw hc)

theorem State.Steady.queuesMatch {s t : State} (h : s.Steady t) (hq : s.QueuesMatch) : t.QueuesMatch := by
  intro g
  simpa only [h.group, h.blockedOn] using hq g

theorem State.Steady.drops {s t : State} (h : s.Steady t) : s.Drops t :=
  ⟨fun g => ⟨_, List.Sublist.refl _, h.group g⟩, h.queuesMatch, h.claimLaw⟩

theorem State.LetsGo.drops {s t : State} {i : SlotId} (h : s.LetsGo t i) : s.Drops t :=
  ⟨fun g => ⟨_, List.filter_sublist, h.group g⟩, h.queuesMatch, h.claimLaw⟩

theorem State.Drops.refl (s : State) : s.Drops s := (State.Steady.refl s).drops

theorem State.drops_enterEnded (s : State) (i : SlotId) (r : EndReason) : s.Drops (s.enterEnded i r) :=
  (s.letsGo_or_steady_ends i r).elim State.Steady.drops State.LetsGo.drops

theorem State.steady_retireIfOrphan {s : State} {i : SlotId} (h : ∀ q, s.permit i = some q → grips q.state = false) :
    s.Steady (s.retireIfOrphan i) := by
  unfold State.retireIfOrphan
  split
  · exact .refl s
  · next q hq =>
    split
    · exact .refl s
    · exact State.steady_retire hq (h q hq)

theorem State.drops_endOne (s : State) (i : SlotId) (r : EndReason) : s.Drops (s.endOne i r) :=
  (s.drops_enterEnded i r).trans ((State.steady_raise _ i .ended).drops.trans
    (State.steady_retireIfOrphan (State.grips_raise .ended State.grips_enterEnded)).drops)

theorem State.Ending.drops {work : List (SlotId × EndReason)} {s t : State} (h : State.Ending work s t) : s.Drops t := by
  induction h with
  | done => exact .refl _
  | step _ _ ih => exact (State.drops_endOne ..).trans ih

theorem State.steady_drawn (s : State) : s.Steady s.drawn := State.steady_of_slots rfl (fun _ => rfl) fun _ => rfl

theorem State.drops_endMany {work : List (SlotId × EndReason)} (hn : (work.map Prod.fst).Nodup) (s : State) : s.Drops (s.endMany work) :=
  s.steady_drawn.drops.trans (State.ending_endMany hn s).drops

theorem State.nodup_work (s : State) (test : Permit → Bool) (r : EndReason) :
    (((s.slotsWith test).map fun i => (i, r)).map Prod.fst).Nodup := by
  rw [List.map_map]
  simpa [Function.comp_def] using s.nodup_slotsWith test

/-! ### The quench entry (R116, R137) -/

theorem any_isQuench_iff {list : List Entry} : list.any Entry.isQuench = true ↔ Entry.quench ∈ list := by
  rw [List.any_eq_true]
  constructor
  · rintro ⟨e, he, hq⟩
    cases e with
    | quench => exact he
    | line => cases hq
    | permit => cases hq
  · exact fun h => ⟨.quench, h, rfl⟩

theorem State.placeQuenchEntry_of_absent {s : State} (ho : (s.port 0).isOpen = true) (hq : Entry.quench ∉ (s.port 0).attention) :
    s.placeQuenchEntry = s.setPort 0 { s.port 0 with attention := (s.port 0).attention ++ [.quench] } := by
  have hany : (s.port 0).attention.any Entry.isQuench = false := Bool.eq_false_iff.mpr (mt any_isQuench_iff.mp hq)
  rw [State.placeQuenchEntry]
  exact if_pos (by rw [ho, hany]; rfl)

theorem State.placeQuenchEntry_of_present {s : State} (h : (s.port 0).isOpen = false ∨ Entry.quench ∈ (s.port 0).attention) :
    s.placeQuenchEntry = s := by
  rw [State.placeQuenchEntry]
  refine if_neg ?_
  obtain ho | hq := h
  · rw [ho]; exact nofun
  · rw [any_isQuench_iff.mpr hq]; simp

theorem State.attention_placeQuenchEntry (s : State) (p : Port) : (s.placeQuenchEntry.port p).attention = (s.port p).attention ++
    if p = 0 ∧ (s.port 0).isOpen = true ∧ Entry.quench ∉ (s.port 0).attention then [.quench] else [] := by
  by_cases h : (s.port 0).isOpen = true ∧ Entry.quench ∉ (s.port 0).attention
  · rw [State.placeQuenchEntry_of_absent h.1 h.2, State.attention_setPort]
    by_cases hp : p = 0
    · rw [if_pos hp, if_pos ⟨hp, h⟩, hp]
    · rw [if_neg hp, if_neg (fun hn => hp hn.1), List.append_nil]
  · rw [if_neg fun hn => h hn.2, List.append_nil, State.placeQuenchEntry_of_present]
    by_cases ho : (s.port 0).isOpen = true
    · exact .inr (by_contra fun hq => h ⟨ho, hq⟩)
    · exact .inl (by simpa using ho)

/-! ### Onsets (R114) -/

/-- The state in which the ends of an onset are taken, and that in which they have been. -/
def State.onset (s : State) (low latch : Bool) : State :=
  (s.quenchMarked low latch).endMany (((s.quenchMarked low latch).slotsWith fun p => p.state.running).map fun i => (i, .quenched))

section
variable {s : State} {low latch : Bool} (hs : s.quenched = false) (hon : (low || latch) = true)
include hs hon

theorem State.setQuench_onset : s.setQuench low latch = (s.onset low latch).releaseGroups := by
  rw [State.setQuench_eq, if_pos ⟨hs, hon⟩]; rfl

theorem State.quenchMarked_onset : s.quenchMarked low latch = State.placeQuenchEntry { s with quenchLow := low, latch := latch } := by
  rw [State.quenchMarked, if_neg (by rw [hs, hon]; exact nofun)]

omit hs hon in
/-- After the ends of an onset no permit runs. -/
theorem State.notRunning_onset {i : SlotId} {q : Permit} (hq : (s.onset low latch).permit i = some q) : q.state.running = false := by
  by_contra hr
  have hrun : q.state.running = true := by simpa using hr
  have hno := State.none_inService_endMany (test := fun p => p.state.running) (fun a b h1 _ => by rw [h1]) hq
    (PState.inService_of_running hrun)
  rw [hrun] at hno
  cases hno

omit hs hon in
theorem State.drops_onset : s.Drops (s.onset low latch) :=
  (s.marks_quenchMarked low latch).steady.drops.trans (State.drops_endMany (State.nodup_work ..) _)

omit hs hon in
theorem State.unqueued_onset (hq : s.QueueLaw) (g : GroupId) : ((s.onset low latch).group g).queue = [] :=
  State.unqueued_of_noneBlocked
    (fun i q h hb => by have := State.notRunning_onset h; rw [hb] at this; cases this)
    (State.drops_onset.queuesMatch (State.queueLaw_iff.mp hq).1) g

omit hs hon in
theorem State.unclaimed_onset (hc : s.ClaimLaw) (l : LineId) : ((s.onset low latch).line l).claims = 0 :=
  State.unclaimed_of_noneActive
    (fun i q h ha => by have := State.notRunning_onset h; rw [ha] at this; cases this)
    (State.drops_onset.claimLaw hc) l

theorem State.moves_onset : State.Moves { s with quenchLow := low, latch := latch } (s.onset low latch).releaseGroups := by
  rw [State.onset, State.quenchMarked_onset hs hon]
  exact (State.moves_placeQuenchEntry _).trans (State.moves_ends_release _ _)

theorem State.appends_onset (p : Port) : (s.onset low latch).releaseGroups.settleLevels.Appends p ((s.port p).attention ++
    if p = 0 ∧ (s.port 0).isOpen = true ∧ Entry.quench ∉ (s.port 0).attention then [.quench] else []) := by
  have happ := State.appends_settle ((State.beats_ends_release (s.quenchMarked low latch)
    (((s.quenchMarked low latch).slotsWith fun p => p.state.running).map fun i => (i, .quenched))).appends rfl p)
  have hlist : ((s.quenchMarked low latch).port p).attention = (s.port p).attention ++
      if p = 0 ∧ (s.port 0).isOpen = true ∧ Entry.quench ∉ (s.port 0).attention then [.quench] else [] := by
    rw [State.quenchMarked_onset hs hon]
    exact State.attention_placeQuenchEntry _ p
  rw [hlist] at happ
  exact happ

/-- What an onset leaves (R114). -/
theorem State.onsetTakes : s.OnsetTakes (s.onset low latch).releaseGroups.settleLevels := by
  have hmarks := s.marks_quenchMarked low latch
  have hmoves := (State.moves_onset hs hon).trans (State.moves_settleLevels _)
  obtain ⟨hends, hleaves⟩ := State.leaves_endMany (s := s.quenchMarked low latch) (test := fun q => q.state.running) (r := .quenched)
    (t := (s.onset low latch).releaseGroups.settleLevels) (State.marks_settleLevels _).slots
  have hpermit := State.permit_of_slots hmarks.slots
  have htwins := State.twins_of_slots hmarks.slots fun i => (s.permit i).any fun q => q.state.running
  simp only [hpermit] at hends hleaves
  refine ⟨?_, ?_, fun i q hq hrun => htwins.endsAs.mp (hends i q hq hrun), htwins.endsLeave hleaves, State.appends_onset hs hon,
    fun hq g => ?_, fun he hq g => ?_⟩
  · refine State.settles_settleLevels fun l => ?_
    have hline : (s.quenchMarked low latch).line l = s.line l := by
      simp only [State.line, (s.quenchMarked_keeps low latch).1]
    rw [← hline]
    exact (State.beats_ends_release _ _).levels l
  · rw [hmoves.quenchLow, hmoves.latch]
    exact hmoves
  · rw [(State.marks_settleLevels _).group, State.group_releaseGroups_unqueued (State.unqueued_onset hq)]
    exact State.unqueued_onset hq g
  · obtain ⟨q, -, hgroup⟩ := (State.drops_onset (s := s) (low := low) (latch := latch)).group g
    have hclaim : s.ClaimLaw := he.1
    rw [(State.marks_settleLevels _).group, State.group_releaseGroups_unqueued (State.unqueued_onset hq),
      State.unheld_of_unclaimed (State.unclaimed_onset hclaim), hgroup]
    rfl

theorem State.entry_onset (ho : (s.port 0).isOpen = true) :
    Entry.quench ∈ ((s.onset low latch).releaseGroups.settleLevels.port 0).attention := by
  obtain ⟨more, hmore, -⟩ := State.appends_onset hs hon 0
  rw [hmore]
  refine List.mem_append_left _ ?_
  by_cases hq : Entry.quench ∈ (s.port 0).attention
  · exact List.mem_append_left _ hq
  · rw [if_pos ⟨rfl, ho, hq⟩]
    exact List.mem_append_right _ (List.mem_singleton.mpr rfl)

end

/-- Without an onset the quench unit writes, and places its entry at an end (R112, R116). -/
theorem State.setQuench_noOnset {s : State} {low latch : Bool} (h : ¬(s.quenched = false ∧ (low || latch) = true)) :
    s.setQuench low latch = if s.quenched = true ∧ (low || latch) = false then
      State.placeQuenchEntry { s with quenchLow := low, latch := latch } else { s with quenchLow := low, latch := latch } := by
  rw [State.setQuench_eq, if_neg h, State.quenchMarked]
  cases hq : s.quenched <;> cases hc : (low || latch) <;> simp_all

end Sys2Proof.Machine

open Sys2Proof Sys2Proof.Machine

set_option Elab.async false

/-- Settles O43: the requests and the pin are one write of the quench unit, and an onset is the ends of all running permits. -/
theorem quenchIsTakenUp : Obligations.QuenchIsTakenUp := by
  intro s f
  refine ⟨fun v => ⟨State.placeQuenchEntry_of_absent, State.placeQuenchEntry_of_present⟩, fun hturn hopen hquench => ?_,
    fun hl hturn hopen hquench => ?_, fun hl hturn hopen => ?_, fun hreset hquench => ?_, fun hl hreset hquench low => ?_⟩
  · have hon : (s.quenchLow || true) = true := Bool.or_true _
    have hmoves := State.moves_onset hquench hon
    have hsettled := hmoves.trans (State.moves_settleLevels _)
    refine ⟨_, congrArg Host.Outcome.next (State.Supervisor.execute_settled ⟨rfl, hopen⟩ hturn rfl ?_), hsettled.latch,
      hsettled.quenchLow, State.entry_onset hquench hon hopen, State.onsetTakes hquench hon⟩
    rw [State.setQuench_onset hquench hon, State.quenchReply, hmoves.latch, hmoves.quenched]
    simp [State.quenched, answer, bitByte]
  · refine congrArg Host.Outcome.next (State.Supervisor.execute_answered ⟨rfl, hopen⟩ hturn rfl ?_ (hl.of_lines fun _ => rfl))
    rw [State.setQuench_noOnset (by rw [hquench]; exact nofun), if_neg (by simp)]
    simp [State.quenched, State.quenchReply, answer, bitByte]
  · have hno : ¬(s.quenched = false ∧ (s.quenchLow || false) = true) := by
      rintro ⟨hq, hlow⟩
      rw [State.quenched, Bool.or_eq_false_iff] at hq
      rw [hq.1] at hlow
      cases hlow
    have hwritten := State.setQuench_noOnset hno
    rw [Bool.or_false] at hwritten
    have hkeeps := State.placeQuenchEntry_keeps { s with latch := false }
    have hdata : (s.setQuench s.quenchLow false).latch = false ∧ (s.setQuench s.quenchLow false).quenched = s.quenchLow := by
      rw [State.quenched, hwritten]
      split
      · rw [hkeeps.2.1, hkeeps.2.2]; exact ⟨rfl, Bool.or_false _⟩
      · exact ⟨rfl, Bool.or_false _⟩
    refine congrArg Host.Outcome.next (State.Supervisor.execute_answered ⟨rfl, hopen⟩ hturn rfl ?_ ?_)
    · rw [State.quenchReply, hdata.1, hdata.2, hwritten]
      rfl
    · split
      · exact hl.of_lines fun l => by rw [State.line, hkeeps.1]; rfl
      · exact hl.of_lines fun _ => rfl
  · have hon : (true || s.latch) = true := rfl
    have hmoves := (State.moves_onset hquench hon).trans (State.moves_settleLevels _)
    refine ⟨_, ?_, hmoves.quenchLow, hmoves.latch, State.entry_onset hquench hon, State.onsetTakes hquench hon⟩
    change execQuenchPinChange true s = _
    rw [execQuenchPinChange, State.outOfReset_high hreset, State.setQuench_onset hquench hon]
  · change execQuenchPinChange low s = _
    rw [execQuenchPinChange, State.outOfReset_high hreset, State.setQuench_noOnset (by rw [hquench]; exact nofun)]
    have hkeeps := State.placeQuenchEntry_keeps { s with quenchLow := low }
    have hcondition : (s.quenched = true ∧ (low || s.latch) = false) ↔ low = false ∧ s.latch = false := by simp [hquench]
    simp only [hcondition]
    rw [State.settleLevels_eq]
    split
    · exact hl.of_lines fun l => by rw [State.line, hkeeps.1]; rfl
    · exact hl.of_lines fun _ => rfl

end

section
/-! SUPPORT. The ticks of a group, and the grant at the end of its gap (R95, R96). -/

namespace Sys2Proof.Machine

set_option Elab.async false

/-! ### One permit let in at the head of a queue (R96) -/

section
variable {s : State} {g : GroupId} {x : Group} {h : Handle} {p : Permit} (hp : s.blockedPermit h = some p)
include hp

theorem State.slot_letIn (j : SlotId) : ((s.setGroup g x).enterActive h.slot true).slot j =
    if j = h.slot then { s.slot j with permit := some p.granted } else s.slot j := by
  obtain ⟨here, -⟩ := State.blocked_facts hp
  by_cases hj : j = h.slot
  · subst hj
    have here' : (s.setGroup g x).permit h.slot = some p := here
    rw [if_pos rfl]
    unfold State.enterActive
    simp only [here', if_true]
    rw [State.slot_of (State.permit_raise (q := p.enteringActive true) _ (by simp [State.addClaims])), State.gen_raise, State.addClaims,
      State.slot_mapLines, State.slot_setPermit, if_pos rfl]
    rfl
  · rw [if_neg hj, State.slot_enterActive _ (Ne.symm hj)]
    rfl

theorem State.group_letIn (g' : GroupId) : ((s.setGroup g x).enterActive h.slot true).group g' = if g' = g then x else s.group g' := by
  obtain ⟨here, -⟩ := State.blocked_facts hp
  rw [(State.claims_enterActive (s := s.setGroup g x) here true).group, State.group_setGroup]
  by_cases hg : g' = g
  · rw [if_pos hg.symm, if_pos hg]
  · rw [if_neg (Ne.symm hg), if_neg hg]

end

theorem State.due_enterActive (s : State) (i : SlotId) (b : Bool) : (s.enterActive i b).due = s.due := by
  unfold State.enterActive
  split
  · rfl
  · dsimp only
    split
    · rw [State.due_raise]; rfl
    · rfl

/-! ### The followers of a grant (R96) -/

/-- The first permits of a queue have followed the head into a group by its line; the next in the queue, if it is BLOCKED, names
another. -/
structure State.Follows (s t : State) (g : GroupId) (l : LineId) (queue : List Handle) (k : Nat) : Prop where
  grants : s.Grants t
  group : t.group g = { s.group g with queue := queue.drop k }
  others : ∀ g', g' ≠ g → t.group g' = s.group g'
  granted : ∀ h ∈ queue.take k, ∃ r, s.resolve h = some r ∧ r.state = .blocked ∧ s.memberLine g r = some l ∧
    t.permit h.slot = some r.granted
  stands : ∀ j, (∀ h ∈ queue.take k, h.slot ≠ j) → t.slot j = s.slot j
  next : ∀ h, (queue.drop k).head? = some h → ∀ r, t.resolve h = some r → r.state = .blocked → s.memberLine g r ≠ some l
  due : t.due = s.due

theorem State.follows_none {s : State} {g : GroupId} {l : LineId} {queue : List Handle} (hq : (s.group g).queue = queue)
    (hnext : ∀ h, queue.head? = some h → ∀ r, s.resolve h = some r → r.state = .blocked → s.memberLine g r ≠ some l) :
    s.Follows s g l queue 0 where
  grants := .refl s
  group := by rw [List.drop_zero, ← hq]
  others _ _ := rfl
  granted h hh := by rw [List.take_zero] at hh; cases hh
  stands _ _ := rfl
  next := hnext
  due := rfl

/-- A permit that is ACTIVE stays so through grants. -/
theorem State.Grants.permit_notBlocked {s t : State} (h : s.Grants t) {j : SlotId} {q : Permit} (hq : s.permit j = some q)
    (hs : q.state ≠ .blocked) : t.slot j = s.slot j := by
  obtain hj | ⟨q', hq', hb, -⟩ := h j
  · exact hj
  · rw [hq] at hq'; cases hq'; exact absurd hb hs

/-- A permit that is BLOCKED after grants was so before them. -/
theorem State.Grants.resolve_blocked {s t : State} (h : s.Grants t) {x : Handle} {r : Permit} (hr : t.resolve x = some r)
    (hb : r.state = .blocked) : s.resolve x = some r := by
  obtain ⟨hx, hper⟩ := State.resolve_eq_some.mp hr
  obtain hj | ⟨q, -, -, hj⟩ := h x.slot
  · exact State.resolve_eq_some.mpr ⟨by rw [State.handle, ← hj]; exact hx, by rw [State.permit, ← hj]; exact hper⟩
  · rw [State.permit, hj] at hper
    cases hper
    rw [Permit.state_granted] at hb
    cases hb

theorem State.follows_grantFollowers (g : GroupId) (l : LineId) (queue : List Handle) (s : State) (hq : (s.group g).queue = queue) :
    ∃ k, s.Follows (State.grantFollowers g l queue s) g l queue k := by
  induction queue generalizing s with
  | nil => exact ⟨0, State.follows_none hq nofun⟩
  | cons h rest ih =>
    unfold State.grantFollowers
    cases hp : s.blockedPermit h with
    | none =>
      refine ⟨0, State.follows_none hq fun h' hh r hr hb => ?_⟩
      cases hh
      rw [State.blockedPermit_eq_some.mpr ⟨hr, hb⟩] at hp
      cases hp
    | some p =>
      dsimp only
      obtain ⟨hres, hblocked⟩ := State.blockedPermit_eq_some.mp hp
      split
      · next hm =>
        have hslot := State.slot_letIn (g := g) (x := { s.group g with queue := rest }) hp
        have hgroup := State.group_letIn (g := g) (x := { s.group g with queue := rest }) hp
        have hgrants := State.grants_letIn (g := g) (x := { s.group g with queue := rest }) hp
        have hdue := State.due_enterActive (s.setGroup g { s.group g with queue := rest }) h.slot true
        generalize (s.setGroup g { s.group g with queue := rest }).enterActive h.slot true = v at *
        have hmembers : ∀ g', (v.group g').members = (s.group g').members := fun g' => by
          rw [hgroup]
          split
          · next he => rw [he]
          · rfl
        have hmember := State.memberLine_of_members hmembers g
        obtain ⟨k, hk⟩ := ih v (by rw [hgroup, if_pos rfl])
        have hin : v.permit h.slot = some p.granted := by rw [State.permit, hslot, if_pos rfl]
        refine ⟨k + 1, hgrants.trans hk.grants, ?_, fun g' hg' => ?_, fun h' hh' => ?_, fun j hj => ?_, fun h' hh' r hr hb => ?_, ?_⟩
        · rw [hk.group, hgroup, if_pos rfl]; rfl
        · rw [hk.others g' hg', hgroup, if_neg hg']
        · obtain rfl | hh' := List.mem_cons.mp hh'
          · exact ⟨p, hres, hblocked, hm, by
              rw [State.permit, hk.grants.permit_notBlocked hin (by rw [Permit.state_granted]; exact nofun)]; exact hin⟩
          · obtain ⟨r, hr, hb, hl, hg⟩ := hk.granted h' hh'
            exact ⟨r, hgrants.resolve_blocked hr hb, hb, by rw [← hmember]; exact hl, hg⟩
        · rw [hk.stands j fun h' hh' => hj h' (List.mem_cons_of_mem _ hh'), hslot, if_neg (Ne.symm (hj h List.mem_cons_self))]
        · rw [← hmember]; exact hk.next h' hh' r hr hb
        · rw [hk.due, hdue]; rfl
      · next hm =>
        refine ⟨0, State.follows_none hq fun h' hh r hr hb => ?_⟩
        cases hh
        rw [hres] at hr
        cases hr
        exact hm

/-- The grant to a BLOCKED head, and to those that follow it by its line (R96). -/
theorem State.grant_eq {s : State} {g : GroupId} {h : Handle} {rest : List Handle} {q : Permit} {l : LineId}
    (hq : (s.group g).queue = h :: rest) (hp : s.blockedPermit h = some q) (hm : s.memberLine g q = some l) :
    s.grant g = State.grantFollowers g l rest
      ((s.setGroup g { s.group g with state := .held l, queue := rest }).enterActive h.slot true) := by
  unfold State.grant
  simp only [hq, hp, hm]

theorem State.Grants.gen {s t : State} (h : s.Grants t) (j : SlotId) : (t.slot j).gen = (s.slot j).gen := by
  obtain hj | ⟨q, -, -, hj⟩ := h j
  · rw [hj]
  · rw [hj]

/-- A grant has let in the head of a group's queue by its line, and with it the first of the others (R96). -/
structure State.GrantTakes (s t : State) (g : GroupId) (l : LineId) (h : Handle) (q : Permit) (rest : List Handle) (k : Nat) : Prop where
  gen : ∀ j, (t.slot j).gen = (s.slot j).gen
  stands : ∀ j, (∀ h' ∈ h :: rest.take k, h'.slot ≠ j) → t.slot j = s.slot j
  group : t.group g = { s.group g with state := .held l, queue := rest.drop k }
  others : ∀ g', g' ≠ g → t.group g' = s.group g'
  head : t.permit h.slot = some q.granted
  granted : ∀ h' ∈ rest.take k, ∃ r, s.resolve h' = some r ∧ r.state = .blocked ∧ s.memberLine g r = some l ∧
    t.permit h'.slot = some r.granted
  next : ∀ h', (rest.drop k).head? = some h' → ∀ r, t.resolve h' = some r → r.state = .blocked → s.memberLine g r ≠ some l
  due : t.due = s.due

theorem State.grantTakes {s : State} {g : GroupId} {h : Handle} {rest : List Handle} {q : Permit} {l : LineId}
    (hq : (s.group g).queue = h :: rest) (hp : s.blockedPermit h = some q) (hm : s.memberLine g q = some l) :
    ∃ k, s.GrantTakes (s.grant g) g l h q rest k := by
  rw [State.grant_eq hq hp hm]
  have hslot := State.slot_letIn (g := g) (x := { s.group g with state := .held l, queue := rest }) hp
  have hgroup := State.group_letIn (g := g) (x := { s.group g with state := .held l, queue := rest }) hp
  have hgrants := State.grants_letIn (g := g) (x := { s.group g with state := .held l, queue := rest }) hp
  have hdue := State.due_enterActive (s.setGroup g { s.group g with state := .held l, queue := rest }) h.slot true
  generalize (s.setGroup g { s.group g with state := .held l, queue := rest }).enterActive h.slot true = v at *
  have hmember := State.memberLine_of_members (s := s) (t := v) (fun g' => by
    rw [hgroup]
    split
    · next he => rw [he]
    · rfl) g
  obtain ⟨k, hk⟩ := State.follows_grantFollowers g l rest v (by rw [hgroup, if_pos rfl])
  have hin : v.permit h.slot = some q.granted := by rw [State.permit, hslot, if_pos rfl]
  refine ⟨k, (hgrants.trans hk.grants).gen, fun j hj => ?_, ?_, fun g' hg' => ?_, ?_, fun h' hh' => ?_, fun h' hh' r hr hb => ?_, ?_⟩
  · rw [hk.stands j fun h' hh' => hj h' (List.mem_cons_of_mem _ hh'), hslot, if_neg (Ne.symm (hj h List.mem_cons_self))]
  · rw [hk.group, hgroup, if_pos rfl]
  · rw [hk.others g' hg', hgroup, if_neg hg']
  · rw [State.permit, hk.grants.permit_notBlocked hin (by rw [Permit.state_granted]; exact nofun)]
    exact hin
  · obtain ⟨r, hr, hb, hl, hg⟩ := hk.granted h' hh'
    exact ⟨r, hgrants.resolve_blocked hr hb, hb, by rw [← hmember]; exact hl, hg⟩
  · rw [← hmember]; exact hk.next h' hh' r hr hb
  · rw [hk.due, hdue]; rfl

/-! ### The ticks of a group (R95) -/

section
variable {s s0 : State} {g : GroupId} (hreset : s.resetLow = false) (hdue : Due.groupTick (s.group g).timebase g ∈ s.due)
  (hs0 : s0 = { s with due := s.due.erase (.groupTick (s.group g).timebase g) })
include hreset hdue hs0

theorem State.exec_gapTick : exec (.gapTick g) s = .next (s0.gapTickAt g).settleLevels := by
  change execGapTick g s = _
  rw [execGapTick, State.outOfReset_high hreset, State.takeGroupTick, State.takeDue_mem hdue, hs0]

theorem State.exec_gapEnd (hlast : (s.group g).state.lastTick = true) : exec (.gapEnd g) s = .next (s0.gapTickAt g).settleLevels := by
  change execGapEnd g s = _
  rw [execGapEnd, State.outOfReset_high hreset, State.takeGroupTick, State.takeDue_mem hdue, hs0]
  simp only [hlast, if_true]

end

theorem State.gapTickAt_notGap {s : State} {g : GroupId} (h : ∀ r, (s.group g).state ≠ .gap r) : s.gapTickAt g = s := by
  unfold State.gapTickAt
  dsimp only
  split
  · rfl
  · rfl
  · next r hr => exact absurd hr (h r)

theorem State.gapTickAt_counts {s : State} {g : GroupId} {r : Nat} (h : (s.group g).state = .gap r) (hr : 1 < r) :
    s.gapTickAt g = s.setGroup g { s.group g with state := .gap (r - 1) } := by
  unfold State.gapTickAt
  simp only [h]
  exact if_neg (by omega)

theorem State.gapTickAt_ends {s : State} {g : GroupId} (h : (s.group g).state = .gap 1) :
    s.gapTickAt g = (s.setGroup g { s.group g with state := .free }).grant g := by
  unfold State.gapTickAt
  simp only [h]
  exact if_pos (Nat.le_refl 1)

end Sys2Proof.Machine

open Sys2Proof Sys2Proof.Machine

set_option Elab.async false

/-- Settles O42: a tick counts the gap, and at its end the grant takes the head of the queue and its followers. -/
theorem gapsAreCountedAndGrant : Obligations.GapsAreCountedAndGrant := by
  intro s g s0 hreset hdue hs0
  have htook : s.Took s0 := hs0 ▸ s.took_due _
  have hgroup := htook.group
  have hlevels : s.LevelLaw → s0.LevelLaw := fun hl => hl.of_lines htook.line
  refine ⟨fun hl hnot => ?_, fun r hr hl h1 => ?_, fun hgap => ?_, fun hgap hl hq => ?_, fun h rest q l hgap hq hres hblocked hm => ?_⟩
  · rw [State.exec_gapTick hreset hdue hs0, State.gapTickAt_notGap (by rwa [hgroup]), State.settleLevels_eq (hlevels hl)]
  · rw [State.exec_gapTick hreset hdue hs0, State.gapTickAt_counts (by rwa [hgroup]) h1, hgroup]
    exact congrArg Host.Outcome.next (State.settleLevels_eq ((hlevels hl).of_lines fun _ => rfl))
  · rw [State.exec_gapTick hreset hdue hs0, State.exec_gapEnd hreset hdue hs0 (by rw [hgap]; rfl)]
  · rw [State.exec_gapEnd hreset hdue hs0 (by rw [hgap]; rfl), State.gapTickAt_ends (by rwa [hgroup]), hgroup]
    have hgrant : (s0.setGroup g { s.group g with state := .free }).grant g = s0.setGroup g { s.group g with state := .free } := by
      unfold State.grant
      simp only [State.group_setGroup, if_true, hq]
    rw [hgrant]
    exact congrArg Host.Outcome.next (State.settleLevels_eq ((hlevels hl).of_lines fun _ => rfl))
  · have hends : s0.gapTickAt g = (s0.setGroup g { s.group g with state := .free }).grant g := by
      rw [State.gapTickAt_ends (by rwa [hgroup]), hgroup]
    have hbeats : State.Beats .run s0 (s0.gapTickAt g) := (State.whole_gapTickAt s0 g).beats
    have hmarks := (s0.gapTickAt g).marks_settleLevels
    generalize hs1 : s0.setGroup g { s.group g with state := .free } = s1 at hends
    have hgroup1 : ∀ g', s1.group g' = if g' = g then { s.group g with state := .free } else s.group g' := fun g' => by
      rw [← hs1, State.group_setGroup, hgroup]
      by_cases hg : g' = g
      · rw [if_pos hg.symm, if_pos hg]
      · rw [if_neg (Ne.symm hg), if_neg hg]
    have hslots1 : s1.slots = s.slots := by rw [← hs1]; exact htook.slots
    have hresolve := State.resolve_of_slots hslots1
    have hmember := State.memberLine_of_members (s := s) (t := s1) (fun g' => by
      rw [hgroup1]
      split
      · next he => rw [he]
      · rfl) g
    obtain ⟨k, hk⟩ := State.grantTakes (s := s1) (g := g) (by rw [hgroup1, if_pos rfl, hq])
      (State.blockedPermit_eq_some.mpr ⟨(hresolve h).trans hres, hblocked⟩) ((hmember q).trans hm)
    rw [← hends] at hk
    refine ⟨_, k, State.exec_gapEnd hreset hdue hs0 (by rw [hgap]; rfl), (hbeats.moves rfl).trans (State.moves_settleLevels _),
      State.settles_settleLevels fun l' => htook.line l' ▸ hbeats.levels l', ?_, fun j => ⟨?_, fun hj => ?_⟩, fun g' hg' => ?_,
      fun p => htook.port p ▸ State.appends_settle (hbeats.appends rfl p), ?_, ?_, ?_, fun h' hh' => ?_, fun h' hh' r hr hb => ?_⟩
    · rw [hmarks.due, hk.due, ← hs1]; rfl
    · rw [State.slot_of_slots hmarks.slots, hk.gen, State.slot_of_slots hslots1]
    · rw [State.slot_of_slots hmarks.slots, hk.stands j hj, State.slot_of_slots hslots1]
    · rw [hmarks.group, hk.others g' hg', hgroup1, if_neg hg']
    · rw [hmarks.group, hk.group]
    · rw [State.permit_of_slots hmarks.slots, hk.head]
    · rw [hmarks.group, hk.group]
    · obtain ⟨r, hr, hb, hl, hg⟩ := hk.granted h' hh'
      exact ⟨r, (hresolve h').symm.trans hr, hb, (hmember r).symm.trans hl, (State.permit_of_slots hmarks.slots _).trans hg⟩
    · rw [State.resolve_of_slots hmarks.slots] at hr
      rw [← hmember]
      exact hk.next h' hh' r hr hb

end

section
/-! SUPPORT. What a normal end leaves (R38, R47 to R57, R61): the triggers that its successors take, one after the other, and the rest. -/

namespace Sys2Proof.Machine

set_option Elab.async false

/-! ### Happenings without an end or a retirement -/

/-- No slot takes another generation, and what is due stands. -/
structure State.Bides (s t : State) : Prop where
  gen : ∀ j, (t.slot j).gen = (s.slot j).gen
  due : t.due = s.due

theorem State.Bides.refl (s : State) : s.Bides s := ⟨fun _ => rfl, rfl⟩

theorem State.Bides.trans {s t u : State} (h : s.Bides t) (k : t.Bides u) : s.Bides u :=
  ⟨fun j => (k.gen j).trans (h.gen j), k.due.trans h.due⟩

theorem State.bides_setPermit (s : State) (i : SlotId) (p : Permit) : s.Bides (s.setPermit i p) :=
  ⟨fun j => by rw [State.slot_setPermit]; split <;> rfl, rfl⟩

theorem State.bides_of_slots {s t : State} (hs : t.slots = s.slots) (hd : t.due = s.due) : s.Bides t :=
  ⟨fun j => by rw [State.slot_of_slots hs], hd⟩

theorem State.bides_setGroup (s : State) (g : GroupId) (x : Group) : s.Bides (s.setGroup g x) := State.bides_of_slots rfl rfl

theorem State.bides_raise (s : State) (i : SlotId) (n : Notice) : s.Bides (s.raise i n) :=
  ⟨s.gen_raise i n, s.due_raise i n⟩

theorem State.bides_enterActive (s : State) (i : SlotId) (b : Bool) : s.Bides (s.enterActive i b) := by
  unfold State.enterActive
  split
  · exact .refl s
  · next p _ =>
    have hentered : s.Bides ((s.setPermit i (p.enteringActive b)).addClaims p.lines) :=
      (s.bides_setPermit i _).trans (State.bides_of_slots rfl rfl)
    dsimp only
    split
    · exact hentered.trans (State.bides_raise ..)
    · exact hentered

theorem State.bides_enterBlocked (s : State) (i : SlotId) (g : GroupId) : s.Bides (s.enterBlocked i g) := by
  unfold State.enterBlocked
  split
  · exact .refl s
  · dsimp only
    exact ((s.bides_setGroup g _).trans (State.bides_setPermit ..)).trans (State.bides_raise ..)

theorem State.bides_activate (s : State) (i : SlotId) : s.Bides (s.activate i) := by
  unfold State.activate
  split
  · exact .refl s
  · split
    · exact s.bides_enterActive i false
    · dsimp only
      split
      · exact (s.bides_setGroup _ _).trans (State.bides_enterActive ..)
      · exact s.bides_enterBlocked i _

theorem State.bides_beginRun (s : State) (i : SlotId) : s.Bides (s.beginRun i) := by
  unfold State.beginRun
  split
  · exact .refl s
  · split
    · exact s.bides_activate i
    · exact s.bides_setPermit i _

theorem State.bides_letIn (s : State) (g : GroupId) (x : Group) (h : Handle) : s.Bides ((s.setGroup g x).enterActive h.slot true) :=
  (s.bides_setGroup g x).trans (State.bides_enterActive ..)

theorem State.bides_grant (s : State) (g : GroupId) : s.Bides (s.grant g) :=
  (State.grant_keeps (P := s.Bides) (.refl s) (fun x _ _ _ _ _ _ => s.bides_letIn g _ x)
    fun _ t x _ _ ht _ _ _ _ => ht.trans (t.bides_letIn g _ x)).1

theorem State.bides_releaseGroup (s : State) (g : GroupId) : s.Bides (s.releaseGroup g) := by
  unfold State.releaseGroup
  dsimp only
  split
  · exact (s.bides_setGroup g _).trans (State.bides_grant ..)
  · exact State.bides_of_slots rfl rfl

theorem State.bides_releaseGroups (s : State) : s.Bides s.releaseGroups :=
  foldl_keeps (P := s.Bides) (fun t g ht => by
    split
    · exact ht.trans (t.bides_releaseGroup g)
    · exact ht) _ (State.bides_of_slots (t := s.drawn) rfl rfl)

theorem State.bides_restart (s : State) (i : SlotId) (p : Permit) : s.Bides (s.restart i p) := by
  have hrun : s.Bides (((s.setPermit i p.clearCounters).beginRun i).raise i .triggered) :=
    ((s.bides_setPermit i _).trans (State.bides_beginRun ..)).trans (State.bides_raise ..)
  cases hs : p.state with
  | active =>
    by_cases hw : p.wait = 0
    · rw [State.restart_inPlace s i hs hw]
      exact (s.bides_setPermit i _).trans (State.bides_raise ..)
    · rw [State.restart_toWait s i hs (Nat.pos_of_ne_zero hw)]
      have hleft : s.Bides (s.removeClaims p.lines) := State.bides_of_slots rfl rfl
      exact ((hleft.trans (State.bides_setPermit ..)).trans (State.bides_releaseGroups _)).trans (State.bides_raise ..)
  | blocked =>
    rw [State.restart_fromBlocked s i hs]
    have hleft : s.Bides (s.leaveQueues (s.handle i)) := State.bides_of_slots rfl rfl
    exact ((hleft.trans (State.bides_setPermit ..)).trans (State.bides_beginRun ..)).trans (State.bides_raise ..)
  | waiting => rw [State.restart_fromWait s i (.inl hs)]; exact hrun
  | resting => rw [State.restart_fromWait s i (.inr hs)]; exact hrun
  | idle | arming | armed | ended => simp only [State.restart, hs]; exact .refl s

theorem State.bides_takeTrigger (s : State) (i : SlotId) : s.Bides (s.takeTrigger i).2 := by
  unfold State.takeTrigger
  split
  · exact .refl s
  · split
    · exact .refl s
    · exact .refl s
    · exact s.bides_raise i _
    · split
      · exact ((s.bides_setPermit i _).trans (State.bides_beginRun ..)).trans (State.bides_raise ..)
      · exact s.bides_raise i _
    all_goals
      split
      · exact s.bides_restart i _
      · exact s.bides_raise i _

/-! ### What a trigger leaves elsewhere (R94) -/

/-- The slot is as it was, but that a BLOCKED permit may have been granted its group. -/
def State.GrantsAt (s t : State) (j : SlotId) : Prop :=
  t.slot j = s.slot j ∨ ∃ q, s.permit j = some q ∧ q.state = .blocked ∧ t.slot j = { s.slot j with permit := some q.granted }

theorem State.GrantsAt.of_slot {s t : State} {j : SlotId} (h : t.slot j = s.slot j) : s.GrantsAt t j := .inl h

theorem State.GrantsAt.trans {s t u : State} {j : SlotId} (h : s.GrantsAt t j) (k : t.GrantsAt u j) : s.GrantsAt u j := by
  obtain hk | ⟨q, hq, hb, hk⟩ := k
  · unfold State.GrantsAt
    rw [hk]
    exact h
  · obtain hh | ⟨q', hq', -, hh⟩ := h
    · exact .inr ⟨q, by rw [← hq, State.permit, State.permit, hh], hb, by rw [hk, hh]⟩
    · rw [State.permit, hh] at hq
      cases hq
      rw [Permit.state_granted] at hb
      cases hb

theorem State.Grants.at {s t : State} (h : s.Grants t) (j : SlotId) : s.GrantsAt t j := h j

theorem State.GrantsAt.slot_of_notBlocked {s t : State} {j : SlotId} (h : s.GrantsAt t j) (hb : s.notBlocked j) : t.slot j = s.slot j := by
  obtain h | ⟨q, hq, hq', -⟩ := h
  · exact h
  · exact absurd hq' (hb q hq)

theorem State.grantsAt_restart {s : State} {i j : SlotId} (p : Permit) (h : i ≠ j) : s.GrantsAt (s.restart i p) j := by
  cases hs : p.state with
  | active =>
    by_cases hw : p.wait = 0
    · rw [State.restart_inPlace s i hs hw]
      exact .of_slot (by rw [State.slot_raise _ h]; simp [h])
    · rw [State.restart_toWait s i hs (Nat.pos_of_ne_zero hw)]
      have hleft : s.GrantsAt ((s.removeClaims p.lines).setPermit i
          { p.clearCounters with state := .waiting, remaining := p.wait }) j := .of_slot (by simp [State.removeClaims, h])
      exact (hleft.trans ((State.grants_releaseGroups _).at j)).trans (.of_slot (State.slot_raise _ h))
  | blocked =>
    rw [State.restart_fromBlocked s i hs]
    exact .of_slot (by rw [State.slot_raise _ h, State.slot_beginRun h]; simp [State.leaveQueues, h])
  | waiting =>
    rw [State.restart_fromWait s i (.inl hs)]
    exact .of_slot (by rw [State.slot_raise _ h, State.slot_beginRun h]; simp [h])
  | resting =>
    rw [State.restart_fromWait s i (.inr hs)]
    exact .of_slot (by rw [State.slot_raise _ h, State.slot_beginRun h]; simp [h])
  | idle | arming | armed | ended => simp only [State.restart, hs]; exact .of_slot rfl

/-- A trigger reaches its permit, and through the release of its group BLOCKED permits, which are granted theirs. -/
theorem State.grantsAt_takeTrigger {s : State} {i j : SlotId} (h : i ≠ j) : s.GrantsAt (s.takeTrigger i).2 j := by
  unfold State.takeTrigger
  split
  · exact .of_slot rfl
  · split
    · exact .of_slot rfl
    · exact .of_slot rfl
    · exact .of_slot (State.slot_raise _ h)
    · split
      · refine .of_slot ?_
        simp only [State.accept]
        rw [State.slot_raise _ h, State.slot_beginRun h]
        simp [h]
      · exact .of_slot (State.slot_raise _ h)
    all_goals
      split
      · exact State.grantsAt_restart _ h
      · exact .of_slot (State.slot_raise _ h)

/-! ### The triggers of a normal end (R61) -/

/-- Several permits take a trigger, one after the other. -/
def State.triggerAll (s : State) (xs : List SlotId) : State := xs.foldl (fun s j => (s.takeTrigger j).2) s

theorem State.grantsAt_triggerAll {j : SlotId} {xs : List SlotId} (hj : j ∉ xs) (s : State) : s.GrantsAt (s.triggerAll xs) j := by
  induction xs generalizing s with
  | nil => exact .of_slot rfl
  | cons i rest ih =>
    have hne : i ≠ j := fun h => hj (h ▸ List.mem_cons_self)
    exact (State.grantsAt_takeTrigger hne).trans (ih (fun h => hj (List.mem_cons_of_mem _ h)) _)

theorem State.bides_triggerAll (xs : List SlotId) (s : State) : s.Bides (s.triggerAll xs) :=
  foldl_keeps (P := s.Bides) (fun t j ht => ht.trans (t.bides_takeTrigger j)) xs (.refl s)

theorem State.moves_triggerAll (xs : List SlotId) (s : State) : s.Moves (s.triggerAll xs) :=
  State.moves_foldl (fun t j => t.moves_takeTrigger j) xs s

/-- One of them takes its trigger in its turn. -/
theorem State.triggerAll_turn {j : SlotId} {xs : List SlotId} (hn : xs.Nodup) (hj : j ∈ xs) (s : State) :
    ∃ v, s.Moves v ∧ s.GrantsAt v j ∧ (v.takeTrigger j).2.GrantsAt (s.triggerAll xs) j := by
  obtain ⟨before, after, rfl⟩ := List.append_of_mem hj
  have hnot := List.nodup_middle.mp hn
  rw [List.nodup_cons, List.mem_append, not_or] at hnot
  refine ⟨s.triggerAll before, s.moves_triggerAll before, State.grantsAt_triggerAll hnot.1.1 s, ?_⟩
  have hsplit : s.triggerAll (before ++ j :: after) = ((s.triggerAll before).takeTrigger j).2.triggerAll after := by
    simp only [State.triggerAll, List.foldl_append, List.foldl_cons]
  rw [hsplit]
  exact State.grantsAt_triggerAll hnot.1.2 _

theorem orderByKey_perm {α : Type} (key : α → Nat) (xs : List α) : (orderByKey key xs).Perm xs := by
  have hins : ∀ (x : α) (ys : List α), (insertByKey key x ys).Perm (x :: ys) := by
    intro x ys
    induction ys with
    | nil => exact .refl _
    | cons y ys ih =>
      unfold insertByKey
      split
      · exact .refl _
      · exact (ih.cons y).trans (.swap ..)
  induction xs with
  | nil => exact .refl _
  | cons x xs ih => exact (hins x _).trans (ih.cons x)

/-! ### What the trigger leaves of its permit (R51 to R57) -/

theorem Permit.raised_counts (p : Permit) (n : Notice) :
    (p.raised n).lines = p.lines ∧ (p.raised n).hold = p.hold ∧ (p.raised n).remaining = p.remaining := by
  unfold Permit.raised
  split
  · exact ⟨rfl, rfl, rfl⟩
  · exact ⟨rfl, rfl, rfl⟩

section
variable {v : State} {j : SlotId} {r : Permit} (hr : v.permit j = some r)
include hr

/-- The trigger is missed (R50, R52, R53). -/
theorem State.takeTrigger_misses (h : r.state = .arming ∨ (r.state = .armed ∧ v.quenched = true) ∨
    (r.retrigger = .ignore ∧ (r.state = .waiting ∨ r.state = .active ∨ r.state = .resting))) :
    (v.takeTrigger j).2.permit j = some (r.raised .missed) := by
  have hmissed := State.permit_raise .missed hr
  obtain h | ⟨h, hq⟩ | ⟨hi, hs⟩ := h
  · rw [State.takeTrigger_arming hr h]
    exact hmissed
  · rw [State.takeTrigger_armed hr h, if_neg (by simp [hq])]
    exact hmissed
  · have hrun : r.state.running = true := by obtain h | h | h := hs <;> rw [h] <;> rfl
    rw [State.takeTrigger_running hr hrun, if_neg (by simp [hi])]
    exact hmissed

/-- A run that starts in ARMED, or anew in WAITING or RESTING (R51, R54). -/
theorem State.takeTrigger_begins (hg : r.gate = none) (h : (r.state = .armed ∧ v.quenched = false) ∨
    (r.retrigger = .restart ∧ (r.state = .waiting ∨ r.state = .resting))) :
    (v.takeTrigger j).2 = ((v.setPermit j r.clearCounters).beginRun j).raise j .triggered := by
  have hopen : v.gateOpen r = true := State.gateOpen_iff.mpr fun h hh => by rw [hg] at hh; cases hh
  obtain ⟨h, hq⟩ | ⟨hre, hs⟩ := h
  · rw [State.takeTrigger_armed hr h, if_pos (by simp [hopen, hq])]
    rfl
  · have hrun : r.state.running = true := by obtain h | h := hs <;> rw [h] <;> rfl
    rw [State.takeTrigger_running hr hrun, if_pos (by simp [hopen, hre])]
    exact State.restart_fromWait v j hs

/-- An ACTIVE permit restarts (R54, R57). -/
theorem State.takeTrigger_restarts (hg : r.gate = none) (hre : r.retrigger = .restart) (h : r.state = .active) :
    (v.takeTrigger j).2 = v.restart j r := by
  have hopen : v.gateOpen r = true := State.gateOpen_iff.mpr fun h hh => by rw [hg] at hh; cases hh
  rw [State.takeTrigger_running hr (by rw [h]; rfl), if_pos (by simp [hopen, hre])]

/-- The run begins with its wait (R51, R54). -/
theorem State.takeTrigger_waits (hg : r.gate = none) (hw : 0 < r.wait) (h : (r.state = .armed ∧ v.quenched = false) ∨
    (r.retrigger = .restart ∧ (r.state = .waiting ∨ r.state = .active ∨ r.state = .resting))) :
    (v.takeTrigger j).2.permit j = some (Permit.raised { r with
      cycles := 0, renewalAge := 0, blockedAge := 0, state := .waiting, remaining := r.wait } .triggered) := by
  by_cases ha : r.state = .active
  · have hre : r.retrigger = .restart := h.elim (fun h => by rw [ha] at h; cases h.1) And.left
    rw [State.takeTrigger_restarts hr hg hre ha, State.restart_toWait v j ha hw]
    refine State.permit_raise _ ?_
    have hset : ((v.removeClaims r.lines).setPermit j { r.clearCounters with state := .waiting, remaining := r.wait }).permit j =
        some { r.clearCounters with state := .waiting, remaining := r.wait } := by simp
    rw [State.permit, State.slot_releaseGroups fun q hq => by rw [hset] at hq; cases hq; exact nofun]
    exact hset
  · rw [State.takeTrigger_begins hr hg, State.beginRun_wait hw]
    · exact State.permit_raise _ (by simp)
    · exact h.imp id fun ⟨hre, hs⟩ => ⟨hre, hs.imp id fun h => h.resolve_left ha⟩

/-- The hold starts anew where the permit is ACTIVE (R57). -/
theorem State.takeTrigger_inPlace (hg : r.gate = none) (hw : r.wait = 0) (hre : r.retrigger = .restart) (ha : r.state = .active) :
    (v.takeTrigger j).2.permit j = some (Permit.raised { r with
      remaining := r.hold, cycles := if r.shape.isTrain then 1 else 0, renewalAge := 0, blockedAge := 0 } .triggered) := by
  rw [State.takeTrigger_restarts hr hg hre ha, State.restart_inPlace v j ha hw]
  exact State.permit_raise _ (by simp [Permit.restartedInPlace])

/-- A run without a wait that needs no group is ACTIVE at once (R29, R30). -/
theorem State.takeTrigger_activates (hg : r.gate = none) (hw : r.wait = 0) (h : (r.state = .armed ∧ v.quenched = false) ∨
    (r.retrigger = .restart ∧ (r.state = .waiting ∨ r.state = .resting))) (hl : v.groupedLine r.lines = none) :
    (v.takeTrigger j).2.permit j = some (Permit.raised { r with
      state := .active, remaining := r.hold, cycles := if r.shape.isTrain then 1 else 0, renewalAge := 0
      blockedAge := 0 } .triggered) := by
  rw [State.takeTrigger_begins hr hg h, State.beginRun_activates hw]
  refine State.permit_raise _ ?_
  have hnone : ∀ p, (v.setPermit j p).groupedLine r.lines = none := fun _ => hl
  rw [State.activate_ungrouped (q := { r with cycles := 0, renewalAge := 0, blockedAge := 0 }) (by simp) (hnone _)]
  simp [State.addClaims, Permit.enteringActive]

omit hr in
/-- An activation request leaves the permit ACTIVE with its hold, or BLOCKED (R29 to R31). -/
theorem State.permit_activate {p : Permit} (hp : v.permit j = some p) : ∃ p', (v.activate j).permit j = some p' ∧ p'.lines = p.lines ∧
    p'.hold = p.hold ∧ ((p'.state = .active ∧ p'.remaining = p.hold) ∨ p'.state = .blocked) := by
  have hentered : ∀ u : State, u.permit j = some p → (u.enterActive j false).permit j = some (p.enteringActive false) := fun u hu => by
    rw [State.enterActive_ofPermit hu]
    simp [State.addClaims]
  unfold State.activate
  simp only [hp]
  split
  · exact ⟨_, hentered v hp, rfl, rfl, .inl ⟨rfl, rfl⟩⟩
  · split
    · exact ⟨_, hentered (v.setGroup _ _) hp, rfl, rfl, .inl ⟨rfl, rfl⟩⟩
    · rw [State.enterBlocked_ofPermit hp]
      obtain ⟨h1, h2, -⟩ := Permit.raised_counts { p with state := .blocked, remaining := 0, blockedAge := 0 } .blocked
      exact ⟨_, State.permit_raise _ (by simp), h1, h2, .inr (by rw [Permit.state_raised])⟩

/-- A run without a wait is ACTIVE with its hold, or BLOCKED (R29 to R31). -/
theorem State.takeTrigger_requests (hg : r.gate = none) (hw : r.wait = 0) (h : (r.state = .armed ∧ v.quenched = false) ∨
    (r.retrigger = .restart ∧ (r.state = .waiting ∨ r.state = .resting))) :
    ∃ r', (v.takeTrigger j).2.permit j = some r' ∧ r'.lines = r.lines ∧ r'.hold = r.hold ∧
      ((r'.state = .active ∧ r'.remaining = r.hold) ∨ r'.state = .blocked) := by
  rw [State.takeTrigger_begins hr hg h, State.beginRun_activates hw]
  obtain ⟨p', hp', hlines, hhold, hstate⟩ := State.permit_activate
    (v := v.setPermit j { r with cycles := 0, renewalAge := 0, blockedAge := 0 }) (j := j)
    (p := { r with cycles := 0, renewalAge := 0, blockedAge := 0 }) (by simp)
  obtain ⟨h1, h2, h3⟩ := p'.raised_counts .triggered
  exact ⟨_, State.permit_raise _ hp', h1.trans hlines, h2.trans hhold, by rw [Permit.state_raised, h3]; exact hstate⟩

end

end Sys2Proof.Machine
end

section
/-! SUPPORT. What a normal end leaves (R38, R61), assembled from its stages: the end and the releases, the triggers, the retirement of an
orphan. -/

namespace Sys2Proof.Machine

set_option Elab.async false

/-! ### The stages of a normal end -/

/-- The permit has ended and the groups have taken their releases; its successors have their triggers to take. -/
def State.endedAt (s : State) (i : SlotId) (r : EndReason) : State := (s.enterEnded i r).releaseGroups.raise i .ended

/-- Every successor has taken its trigger. -/
def State.relayed (s : State) (i : SlotId) (r : EndReason) : State :=
  (s.endedAt i r).drawn.triggerAll ((s.endedAt i r).freeSlots ((s.endedAt i r).successors (s.handle i)))

theorem State.endNormal_eq (s : State) (i : SlotId) (r : EndReason) : s.endNormal i r = (s.relayed i r).retireIfOrphan i := rfl

section
variable {s : State} {i : SlotId} {q : Permit} (here : s.permit i = some q) (r : EndReason)

theorem State.nodup_relay (s : State) (i : SlotId) (r : EndReason) :
    ((s.endedAt i r).freeSlots ((s.endedAt i r).successors (s.handle i))).Nodup := by
  rw [State.freeSlots, (orderByKey_perm _ _).nodup_iff, State.successors_eq]
  exact (List.nodup_finRange 48).filter _

theorem State.grantsAt_endedAt (s : State) {i j : SlotId} (h : i ≠ j) (r : EndReason) : s.GrantsAt (s.endedAt i r) j :=
  ((State.GrantsAt.of_slot (State.slot_enterEnded r h)).trans ((State.grants_releaseGroups _).at j)).trans
    (.of_slot (State.slot_raise _ h))

/-- The successors that take a trigger are those that named the permit before it ended. -/
theorem State.mem_relay {j : SlotId} (h : i ≠ j) : j ∈ (s.endedAt i r).freeSlots ((s.endedAt i r).successors (s.handle i)) ↔
    ∃ p, s.permit j = some p ∧ s.follows i p := by
  rw [State.freeSlots, mem_orderByKey, State.successors_eq, List.mem_filter, Option.any_eq_true]
  simp only [allSlots, List.mem_finRange, true_and, decide_eq_true_eq]
  obtain hsame | ⟨p, hp, -, hgranted⟩ := s.grantsAt_endedAt h r
  · rw [State.permit, hsame]; rfl
  · rw [State.permit, hgranted, hp]
    simp [State.follows, Permit.granted]

include here

/-- The permit that ended has raised ENDED. -/
theorem State.slot_endedAt : (s.endedAt i r).slot i = { s.slot i with permit := some ((q.stoppedBy r).raised .ended) } := by
  have hended : (s.enterEnded i r).permit i = some (q.stoppedBy r) := State.permit_enterEnded r here
  have hreleased : (s.enterEnded i r).releaseGroups.slot i = (s.enterEnded i r).slot i :=
    State.slot_releaseGroups fun p hp => by rw [hended] at hp; cases hp; exact nofun
  have hraised : (s.endedAt i r).permit i = some ((q.stoppedBy r).raised .ended) :=
    State.permit_raise _ (by rw [State.permit, hreleased]; exact hended)
  rw [State.slot_of hraised, State.endedAt, State.gen_raise, hreleased, State.gen_enterEnded]

/-- The triggers pass the permit that ended by, its own too where it names itself. -/
theorem State.slot_relayed : (s.relayed i r).slot i = { s.slot i with permit := some ((q.stoppedBy r).raised .ended) } := by
  have hended := State.slot_endedAt here r
  refine foldl_keeps (P := fun t : State => t.slot i = { s.slot i with permit := some ((q.stoppedBy r).raised .ended) })
    (fun t j ht => ?_) _ hended
  have hp : t.permit i = some ((q.stoppedBy r).raised .ended) := by rw [State.permit, ht]
  have hs : ((q.stoppedBy r).raised .ended).state = .ended := by rw [Permit.state_raised]; rfl
  by_cases hj : j = i
  · rw [hj, State.takeTrigger_outOfService hp (.inr hs)]
    exact ht
  · rw [State.slot_takeTrigger hj fun p hp' => by rw [hp] at hp'; cases hp'; rw [hs]; exact nofun]
    exact ht

omit here in
/-- A permit that is no successor stays through the triggers. -/
theorem State.grantsAt_relayed {j : SlotId} (h : i ≠ j) (hno : ∀ p, s.permit j = some p → ¬s.follows i p) :
    s.GrantsAt (s.relayed i r) j := by
  refine (s.grantsAt_endedAt h r).trans (State.grantsAt_triggerAll (s := (s.endedAt i r).drawn) fun hmem => ?_)
  obtain ⟨p, hp, hf⟩ := (State.mem_relay r h).mp hmem
  exact hno p hp hf

omit here in
/-- A successor that is not BLOCKED is as it was when its turn comes, and nothing but a grant reaches it after. -/
theorem State.relayed_turn {j : SlotId} {p : Permit} (h : i ≠ j) (hp : s.permit j = some p) (hf : s.follows i p)
    (hb : p.state ≠ .blocked) : ∃ v, s.Moves v ∧ v.slot j = s.slot j ∧ (v.takeTrigger j).2.GrantsAt (s.relayed i r) j := by
  obtain ⟨v, hmoves, hbefore, hafter⟩ := State.triggerAll_turn (s.nodup_relay i r) ((State.mem_relay r h).mpr ⟨p, hp, hf⟩)
    (s.endedAt i r).drawn
  have hended : s.Moves (s.endedAt i r).drawn :=
    (((s.moves_enterEnded i r).trans (State.moves_releaseGroups _)).trans (State.moves_raise ..)).trans (State.moves_drawn _)
  have hstart : s.GrantsAt (s.endedAt i r).drawn j := s.grantsAt_endedAt h r
  exact ⟨v, hended.trans hmoves, (hstart.trans hbefore).slot_of_notBlocked fun p' hp' => by rw [hp] at hp'; cases hp'; exact hb, hafter⟩

omit here in
theorem State.bides_relayed : (s.enterEnded i r).Bides (s.relayed i r) :=
  (((State.bides_releaseGroups _).trans (State.bides_raise ..)).trans (State.bides_of_slots (t := (s.endedAt i r).drawn) rfl rfl)).trans
    (State.bides_triggerAll _ _)

/-- What an entry to ENDED leaves due (R47). -/
theorem State.due_enterEnded : (s.enterEnded i r).due = s.due.filter fun d => !d.isFor (s.handle i) := by
  unfold State.enterEnded
  rw [here]
  dsimp only
  have hdetach : (s.detach i).due = s.due := by
    unfold State.detach
    split
    · rfl
    · split <;> rfl
  rw [State.withdraw, State.setPermit]
  show (s.detach i).due.filter _ = _
  rw [hdetach]

/-! ### The slots after the retirement of an orphan (R38, R153) -/

theorem State.slot_endNormal_self : (s.endNormal i r).slot i = (s.slot i).endedBy r := by
  have hslot := State.slot_relayed here r
  have hp : (s.relayed i r).permit i = some ((q.stoppedBy r).raised .ended) := by rw [State.permit, hslot]
  rw [State.endNormal_eq, State.retireIfOrphan, hp, Slot.endedBy, show (s.slot i).permit = some q from here]
  dsimp only
  cases ho : q.owner with
  | some o =>
    have hown : ((q.stoppedBy r).raised .ended).owner = some o := by rw [Permit.owner_raised]; exact ho
    rw [hown, if_neg nofun]
    dsimp only
    rw [hslot, Permit.raised_ended_of_owned (by rw [ho]; exact nofun)]
  | none =>
    have hown : ((q.stoppedBy r).raised .ended).owner = none := by rw [Permit.owner_raised]; exact ho
    rw [hown, if_pos rfl]
    dsimp only
    rw [State.slot_retire_any hp, if_pos rfl, hslot]

theorem State.slot_endNormal_other {j : SlotId} (h : i ≠ j) : (s.endNormal i r).slot j =
    { (s.relayed i r).slot j with
      permit := ((s.relayed i r).permit j).map (s.unreferenced (s.orphansOf fun k => k = i)) } := by
  have hslot := State.slot_relayed here r
  have hp : (s.relayed i r).permit i = some ((q.stoppedBy r).raised .ended) := by rw [State.permit, hslot]
  rw [State.endNormal_eq]
  generalize s.relayed i r = t at hslot hp ⊢
  rw [State.retireIfOrphan, hp]
  dsimp only
  rw [Permit.owner_raised, show (q.stoppedBy r).owner = q.owner from rfl]
  cases ho : q.owner with
  | some o =>
    have hgone : (s.orphansOf fun k => decide (k = i)) = fun _ => false := by
      funext k
      rw [Bool.eq_false_iff, ne_eq, State.orphansOf_eq, decide_eq_true_eq]
      rintro ⟨rfl, p, hpk, hpo⟩
      rw [here] at hpk
      cases hpk
      rw [ho] at hpo
      cases hpo
    have hid : s.unreferenced (fun _ => false) = id := funext s.unreferenced_none
    rw [hgone, hid, Option.map_id]
    exact State.slot_of (s := t) (i := j) rfl
  | none =>
    dsimp only
    rw [State.slot_retire_any hp, if_neg h]
    have hhandle : t.handle i = s.handle i := by rw [State.handle, hslot]; rfl
    dsimp only
    congr 2
    funext p
    rw [hhandle, ← t.unreferenced_none (p.dropReference (s.handle i))]
    refine State.unreferenced_dropReference (fun y => ?_) p
    simp only [State.handleIn, State.orphansOf_eq, decide_eq_true_eq, Bool.false_eq_true, and_false, or_false]
    constructor
    · rintro ⟨hy, hi, -⟩
      rw [← hy, hi]
    · rintro rfl
      exact ⟨rfl, rfl, q, here, ho⟩

/-- The permit that ended reads its end. -/
theorem State.endsAs_of_slot {t : State} (hslot : t.slot i = (s.slot i).endedBy r) : s.EndsAs t i q r := by
  rw [Slot.endedBy, show (s.slot i).permit = some q from here] at hslot
  dsimp only at hslot
  rw [State.EndsAs, State.permit, hslot]
  split
  · exact ⟨rfl, rfl⟩
  · exact ⟨rfl, rfl⟩

end

theorem State.unreferenced_granted (s : State) (gone : SlotId → Bool) (q : Permit) :
    s.unreferenced gone q.granted = (s.unreferenced gone q).granted := by
  by_cases ho : q.owner = none
  · unfold Permit.granted Permit.raised State.unreferenced
    simp [ho]
  · have hg : q.granted.owner ≠ none := by rw [Permit.granted, Permit.owner_raised]; exact ho
    rw [State.unreferenced_owned ho, State.unreferenced_owned hg]

/-- A permit that grants alone could reach before orphans lost their references stays. -/
theorem State.GrantsAt.stays {s x t : State} {gone : SlotId → Bool} {j : SlotId} {p : Permit} (h : s.GrantsAt x j)
    (hp : s.permit j = some p) (ht : t.slot j = { x.slot j with permit := (x.permit j).map (s.unreferenced gone) }) :
    s.Stays t gone j p := by
  obtain hsame | ⟨p', hp', hb, hgranted⟩ := h
  · rw [State.permit, hsame, show (s.slot j).permit = some p from hp] at ht
    exact ⟨by rw [ht], .inl (by rw [State.permit, ht]; rfl)⟩
  · rw [hp] at hp'
    cases hp'
    rw [State.permit, hgranted] at ht
    exact ⟨by rw [ht], .inr ⟨hb, by rw [State.permit, ht]; exact congrArg some (s.unreferenced_granted gone p)⟩⟩

theorem State.GrantsAt.empty {s x : State} {j : SlotId} (h : s.GrantsAt x j) (hp : s.permit j = none) : x.slot j = s.slot j :=
  h.slot_of_notBlocked fun p hp' => by rw [hp] at hp'; cases hp'

/-- A permit that is in service on a member line of a group is let in by that line, or waits in the group's queue (R84, R91, R97). -/
theorem State.QueuesHold.standing {t : State} (h : t.QueuesHold) {g : GroupId} {l : LineId} {j : SlotId} {p : Permit}
    (hp : t.permit j = some p) (hl : p.names l = true) (hg : (t.group g).has l = true) :
    (p.state = .active → (t.group g).state = .held l) ∧ (p.state = .blocked → t.handle j ∈ (t.group g).queue) := by
  refine ⟨fun ha => ?_, fun hb => ?_⟩
  · have hclaim : 0 < (t.line l).claims := by
      rw [State.claimLaw_iff.mp h.groups.claim l]
      refine List.length_pos_of_mem (List.mem_filter.mpr ⟨List.mem_finRange j, ?_⟩)
      rw [State.claimsAt_of_permit hp, ha, hl]
      rfl
    exact (h.groups.bounded g).1 l hg hclaim
  · refine ((h.match_ g).2 _).mpr (State.blockedOn_iff.mpr ⟨p.lines, ?_, ?_⟩)
    · rw [State.slot_handle]
      exact State.waitingAt_eq_some.mpr ⟨p, hp, hb, rfl⟩
    · exact ⟨l, hl, hg⟩

/-! ### The successors (R61) -/

theorem State.Moves.groupedLine {s v : State} (h : s.Moves v) (ls : LineSet) : v.groupedLine ls = s.groupedLine ls :=
  State.groupedLine_of_members h.stands.members ls

section
variable {s t : State} {i : SlotId} {q : Permit} (here : s.permit i = some q) (r : EndReason)
  (ht : t.slots = (s.endNormal i r).slots)
include here ht

theorem State.slot_handsOn {j : SlotId} (hj : j ≠ i) : t.slot j = { (s.relayed i r).slot j with
    permit := ((s.relayed i r).permit j).map (s.unreferenced (s.orphansOf fun k => k = i)) } := by
  rw [State.slot_of_slots ht, State.slot_endNormal_other here r (Ne.symm hj)]

/-- What a successor's trigger leaves of it stands, but that a BLOCKED permit may be granted its group. -/
theorem State.relay_requests {j : SlotId} {p : Permit} (hj : j ≠ i) (hp : s.permit j = some p) (hf : s.follows i p)
    (hb : p.state ≠ .blocked) {P : Permit → Prop}
    (htake : ∀ v : State, v.permit j = some p → s.Moves v → ∃ p', (v.takeTrigger j).2.permit j = some p' ∧ P p') :
    ∃ p', P p' ∧ (t.permit j = some (s.unreferenced (s.orphansOf fun k => k = i) p') ∨ (p'.state = .blocked ∧
      t.permit j = some (s.unreferenced (s.orphansOf fun k => k = i) p'.granted))) := by
  obtain ⟨v, hmoves, hbefore, hafter⟩ := State.relayed_turn r (Ne.symm hj) hp hf hb
  obtain ⟨p', hp', hP⟩ := htake v (by rw [State.permit, hbefore]; exact hp) hmoves
  have hslot := State.slot_handsOn here r ht hj
  refine ⟨p', hP, ?_⟩
  obtain hsame | ⟨p'', hp'', hblocked, hgranted⟩ := hafter
  · left
    rw [State.permit, hslot, State.permit, hsame]
    exact congrArg (Option.map _) hp'
  · rw [hp'] at hp''
    cases hp''
    right
    refine ⟨hblocked, ?_⟩
    rw [State.permit, hslot, State.permit, hgranted]
    rfl

theorem State.relay_result {j : SlotId} {p p' : Permit} (hj : j ≠ i) (hp : s.permit j = some p) (hf : s.follows i p)
    (hb : p.state ≠ .blocked) (hb' : p'.state ≠ .blocked)
    (htake : ∀ v : State, v.permit j = some p → s.Moves v → (v.takeTrigger j).2.permit j = some p') :
    t.permit j = some (s.unreferenced (s.orphansOf fun k => k = i) p') := by
  obtain ⟨x, rfl, hx⟩ := State.relay_requests here r ht hj hp hf hb (P := fun x => x = p')
    fun v hv hmoves => ⟨p', htake v hv hmoves, rfl⟩
  exact hx.resolve_right fun h => hb' h.1

theorem State.othersStay_handsOn : s.OthersStay t (s.orphansOf fun k => k = i)
    fun j => j = i || (s.permit j).any fun r => r.trigger = .chain (some (s.handle i)) := by
  intro j htouched
  simp only [Bool.or_eq_false_iff, decide_eq_false_iff_not] at htouched
  obtain ⟨hj, hno⟩ := htouched
  have hgrants : s.GrantsAt (s.relayed i r) j := State.grantsAt_relayed r (Ne.symm hj) fun p hp hf => by
    rw [hp, Option.any_some] at hno
    exact of_decide_eq_false hno hf
  have hslot := State.slot_handsOn here r ht hj
  refine ⟨fun hnone => ?_, fun p hp => hgrants.stays hp hslot⟩
  rw [hslot, State.permit, hgrants.empty hnone, show (s.slot j).permit = none from hnone]
  exact (State.slot_of hnone).symm

theorem State.passedBy_handsOn {j : SlotId} {p : Permit} (hj : j ≠ i) (hp : s.permit j = some p) (hf : s.follows i p)
    (hs : p.state = .idle ∨ p.state = .ended) :
    t.permit j = some (s.unreferenced (s.orphansOf fun k => k = i) p) ∧ (t.slot j).gen = (s.slot j).gen := by
  have hb : p.state ≠ .blocked := fun he => by simp [he] at hs
  refine ⟨State.relay_result here r ht hj hp hf hb hb fun v hv _ => ?_, ?_⟩
  · rw [State.takeTrigger_outOfService hv hs]; exact hv
  · rw [State.slot_handsOn here r ht hj]
    show ((s.relayed i r).slot j).gen = (s.slot j).gen
    rw [(State.bides_relayed r).gen j, State.gen_enterEnded]

end

theorem State.unreferenced_counts (s : State) (gone : SlotId → Bool) (q : Permit) : (s.unreferenced gone q).lines = q.lines ∧
    (s.unreferenced gone q).state = q.state ∧ (s.unreferenced gone q).remaining = q.remaining := by
  unfold State.unreferenced
  split
  · exact ⟨rfl, rfl, rfl⟩
  · exact ⟨rfl, rfl, rfl⟩

theorem Permit.granted_counts (q : Permit) : q.granted.lines = q.lines ∧ q.granted.remaining = q.hold := by
  obtain ⟨h1, -, h3⟩ := Permit.raised_counts { q with
    state := .active, remaining := q.hold, cycles := if q.shape.isTrain then min 65535 (q.cycles + 1) else q.cycles
    renewalAge := if q.shape.isLease then 0 else q.renewalAge, blockedAge := 0 } .granted
  exact ⟨h1, h3⟩

/-- What a normal end does to the others (R61). -/
theorem State.handsOn_endNormal {s : State} {i : SlotId} {q : Permit} (here : s.permit i = some q) (r : EndReason) :
    s.HandsOn (s.endNormal i r).settleLevels i := by
  have ht : (s.endNormal i r).settleLevels.slots = (s.endNormal i r).slots := (State.marks_settleLevels _).slots
  have hwhole := State.whole_endNormal (k := .ends) rfl s i r
  intro gone hgone
  subst hgone
  refine ⟨State.othersStay_handsOn here r ht, fun p => State.appends_settle (hwhole.beats.appends rfl p),
    fun j p hj hp hf => ⟨fun hs => State.passedBy_handsOn here r ht hj hp hf hs, fun hs => ?_, fun hg hw hs => ?_,
      fun hg hw hre ha => ?_, fun hg hw hs => ⟨fun hl => ?_, fun g l he hbl hq hl => ?_⟩⟩⟩
  · have hb : p.state ≠ .blocked := fun he => by simp [he] at hs
    refine State.relay_result here r ht hj hp hf hb (by rwa [Permit.state_raised]) fun v hv hmoves => ?_
    exact State.takeTrigger_misses hv (by rwa [hmoves.quenched])
  · have hb : p.state ≠ .blocked := fun he => by simp [he] at hs
    refine State.relay_result here r ht hj hp hf hb (by rw [Permit.state_raised]; exact nofun) fun v hv hmoves => ?_
    exact State.takeTrigger_waits hv hg hw (by rwa [hmoves.quenched])
  · have hb : p.state ≠ .blocked := by rw [ha]; exact nofun
    exact State.relay_result here r ht hj hp hf hb (by rw [Permit.state_raised]; exact hb) fun v hv _ =>
      State.takeTrigger_inPlace hv hg hw hre ha
  · have hb : p.state ≠ .blocked := fun he => by simp [he] at hs
    refine State.relay_result here r ht hj hp hf hb (by rw [Permit.state_raised]; exact nofun) fun v hv hmoves => ?_
    exact State.takeTrigger_activates hv hg hw (by rwa [hmoves.quenched]) (by rwa [hmoves.groupedLine])
  · have hb : p.state ≠ .blocked := fun he => by simp [he] at hs
    obtain ⟨hline, hhas⟩ := State.groupedLine_eq_some hl
    have hmoves := (s.moves_endNormal i r).trans (State.moves_settleLevels _)
    have hhold : (s.endNormal i r).settleLevels.QueuesHold :=
      (hwhole.via.queuesHold ⟨(State.exclusionLaw_iff.mp he).2.1, hbl, (State.queueLaw_iff.mp hq).1, (State.queueLaw_iff.mp hq).2⟩).settle
    obtain ⟨p', ⟨hlines, hsame, hstate⟩, hend⟩ := State.relay_requests here r ht hj hp hf hb
      (P := fun p' => p'.lines = p.lines ∧ p'.hold = p.hold ∧ ((p'.state = .active ∧ p'.remaining = p.hold) ∨ p'.state = .blocked))
      fun v hv hmoves => State.takeTrigger_requests hv hg hw (by rwa [hmoves.quenched])
    obtain ⟨p'', hp'', hlines'', hstate''⟩ : ∃ p'', (s.endNormal i r).settleLevels.permit j = some p'' ∧ p''.lines = p.lines ∧
        ((p''.state = .active ∧ p''.remaining = p.hold) ∨ p''.state = .blocked) := by
      obtain hend | ⟨-, hend⟩ := hend
      · obtain ⟨h1, h2, h3⟩ := s.unreferenced_counts (s.orphansOf fun k => k = i) p'
        exact ⟨_, hend, h1.trans hlines, by rw [h2, h3]; exact hstate⟩
      · obtain ⟨h1, h2, h3⟩ := s.unreferenced_counts (s.orphansOf fun k => k = i) p'.granted
        obtain ⟨h4, h5⟩ := p'.granted_counts
        exact ⟨_, hend, (h1.trans h4).trans hlines, .inl ⟨h2.trans p'.state_granted, (h3.trans h5).trans hsame⟩⟩
    have hstanding := hhold.standing hp'' (l := l) (g := g) (by rw [Permit.names, hlines'']; exact hline)
      (by rw [Group.has, hmoves.stands.members]; exact hhas)
    refine ⟨p'', hp'', hstate''.imp (fun ⟨ha, hrem⟩ => ⟨ha, hrem, hstanding.1 ha⟩) fun hblocked => ⟨hblocked, ?_⟩⟩
    have hhandle : (s.endNormal i r).settleLevels.handle j = s.handle j := by
      rw [State.handle, State.slot_handsOn here r ht hj]
      show ({ slot := j, gen := ((s.relayed i r).slot j).gen } : Handle) = _
      rw [(State.bides_relayed r).gen j, State.gen_enterEnded]
      rfl
    rw [← hhandle]
    exact hstanding.2 hblocked

end Sys2Proof.Machine
end

section
/-! SUPPORT. The last ticks of phases, and the ends that they and RELEASE bring about (R25 to R36, R61, R98). -/

namespace Sys2Proof.Machine

set_option Elab.async false

/-! ### RELEASE (R38, R61) -/

theorem State.HandsOn.of_due {s t : State} {i : SlotId} {d : List Due} (h : State.HandsOn { s with due := d } t i) : s.HandsOn t i := h

/-- With an owner the permit that ended keeps its slot (R153). -/
theorem State.endNormal_owned {s : State} {i : SlotId} {q : Permit} (here : s.permit i = some q) (ho : q.owner ≠ none) (r : EndReason) :
    s.endNormal i r = s.relayed i r := by
  have hp : (s.relayed i r).permit i = some ((q.stoppedBy r).raised .ended) := by rw [State.permit, State.slot_relayed here r]
  obtain ⟨o, hown⟩ := Option.ne_none_iff_exists'.mp ho
  rw [State.endNormal_eq]
  generalize s.relayed i r = t at hp ⊢
  rw [State.retireIfOrphan, hp]
  dsimp only
  rw [Permit.owner_raised, show (q.stoppedBy r).owner = q.owner from rfl, hown]

theorem Due.not_isFor (h : Handle) (d : Due) :
    (!d.isFor h) = decide (d ≠ .permitTick h ∧ d ≠ .trigger h ∧ d ≠ .renewal h) := by
  cases d <;> simp [Due.isFor]

/-! ### Ticks at permits (R22, R25 to R36) -/

/-- What a tick at a permit leaves, whatever it leads to. -/
theorem State.frame_permitTick (s : State) (i : SlotId) : s.Moves ((s.tickTaken i).permitTick i).settleLevels ∧
    s.Settles ((s.tickTaken i).permitTick i).settleLevels ∧
    ∀ p : Port, ((s.tickTaken i).permitTick i).settleLevels.Appends p (s.port p).attention := by
  have hbeats : State.Beats .ends (s.tickTaken i) ((s.tickTaken i).permitTick i) := (State.whole_permitTick rfl _ i).beats
  have htook : s.Took (s.tickTaken i) := s.took_due _
  exact ⟨htook.moves.trans ((hbeats.moves rfl).trans (State.moves_settleLevels _)),
    State.settles_settleLevels fun l => htook.line l ▸ hbeats.levels l,
    fun p => htook.port p ▸ State.appends_settle (hbeats.appends rfl p)⟩

/-- Without a renewal window the hold alone is counted (R32, R35). -/
theorem Permit.countHold_of_noWindow {q : Permit} (h : q.shape.window = 0) : q.countHold = { q with remaining := q.remaining - 1 } := by
  rw [Permit.countHold, if_pos h]

theorem State.tick_completes {s : State} {i : SlotId} {q : Permit} (here : s.permit i = some q) (hw : q.shape.window = 0) :
    (s.setPermit i q.countHold).endNormal i .completed = s.endNormal i .completed := by
  rw [Permit.countHold_of_noWindow hw, State.endNormal_setPermit, State.setPermit_self here]

section
variable {s : State} {i : SlotId} {q : Permit} (here : s.permit i = some q) (ha : q.state = .active) (hr : q.remaining = 1)
include here ha hr

theorem State.permitTick_holdEnd : s.permitTick i = (s.setPermit i q.countHold).holdEnd i q.countHold := by
  rw [State.permitTick_active here ha, if_pos (by omega)]

theorem State.permitTick_pulse (hs : q.shape = .pulse) : s.permitTick i = s.endNormal i .completed := by
  rw [State.permitTick_holdEnd here ha hr, ← State.tick_completes here (by rw [hs]; rfl)]
  unfold State.holdEnd
  rw [show q.countHold.shape = .pulse from hs]

theorem State.permitTick_trainCompletes {rest repeats : Nat} (hs : q.shape = .train rest repeats) (hc : 0 < repeats ∧ repeats ≤ q.cycles) :
    s.permitTick i = s.endNormal i .completed := by
  rw [State.permitTick_holdEnd here ha hr, ← State.tick_completes here (by rw [hs]; rfl)]
  unfold State.holdEnd
  rw [show q.countHold.shape = .train rest repeats from hs]
  exact if_pos (decide_eq_true hc)

theorem State.permitTick_trainRests {rest repeats : Nat} (hs : q.shape = .train rest repeats)
    (hc : ¬(0 < repeats ∧ repeats ≤ q.cycles)) : s.permitTick i =
      ((s.removeClaims q.lines).setPermit i { q with state := .resting, remaining := rest }).releaseGroups := by
  have hcount := Permit.countHold_of_noWindow (q := q) (by rw [hs]; rfl)
  rw [State.permitTick_holdEnd here ha hr]
  unfold State.holdEnd
  rw [show q.countHold.shape = .train rest repeats from hs]
  refine (if_neg (by rw [Permit.trainComplete, decide_eq_true_eq]; exact hc)).trans ?_
  have hremove : ∀ (p : Permit) (ls : LineSet), (s.setPermit i p).removeClaims ls = (s.removeClaims ls).setPermit i p := fun _ _ => rfl
  rw [State.enterResting, hremove, State.setPermit_setPermit, hcount]

theorem State.permitTick_lease {src : RenewalSource} {m : Nat} (hs : q.shape = .lease src m) :
    s.permitTick i = (s.setPermit i q.countHold).endAbnormal i .expired := by
  rw [State.permitTick_holdEnd here ha hr]
  unfold State.holdEnd
  rw [show q.countHold.shape = .lease src m from hs]

end

/-- A TRAIN that rests, and what its release leaves of the others (R33, R94). -/
theorem State.rests {s t : State} {i : SlotId} {q : Permit} {ls : LineSet} {rest : Nat} (h : t.slots =
    ((s.removeClaims ls).setPermit i { q with state := .resting, remaining := rest }).releaseGroups.slots) :
    t.permit i = some { q with state := .resting, remaining := rest } ∧ (t.slot i).gen = (s.slot i).gen ∧
      s.OthersStay t (fun _ => false) fun j => j = i := by
  have hgrants := (State.grants_releaseGroups ((s.removeClaims ls).setPermit i { q with state := .resting, remaining := rest })).trans
    (.of_slots h)
  have hrest : ((s.removeClaims ls).setPermit i { q with state := .resting, remaining := rest }).permit i =
      some { q with state := .resting, remaining := rest } := by simp
  have hslot := hgrants.permit_notBlocked hrest nofun
  refine ⟨by rw [State.permit, hslot]; exact hrest, by rw [hslot, (State.bides_setPermit ..).gen]; rfl, fun j hj => ?_⟩
  have hother : ((s.removeClaims ls).setPermit i { q with state := .resting, remaining := rest }).slot j = s.slot j := by
    rw [State.slot_setPermit, if_neg (Ne.symm (of_decide_eq_false hj))]
    rfl
  refine ⟨fun hnone => ?_, fun p hp => hgrants.stays ?_⟩
  · rw [hgrants.empty (by rw [State.permit, hother]; exact hnone), hother]
  · rw [hother, State.unreferenced_none]
    exact State.slot_of hp

/-! ### Queues lose entries alone where groups take releases (R96, R98) -/

/-- No queue gains an entry. -/
def State.Shortens (s t : State) : Prop := ∀ g, (t.group g).queue.Sublist (s.group g).queue

theorem State.Shortens.trans {s t u : State} (h : s.Shortens t) (k : t.Shortens u) : s.Shortens u := fun g => (k g).trans (h g)

theorem State.Shortens.of_groups {s t : State} (h : ∀ g, t.group g = s.group g) : s.Shortens t := fun g => by rw [h]

theorem State.Drops.shortens {s t : State} (h : s.Drops t) : s.Shortens t := fun g => by
  obtain ⟨q, hq, hg⟩ := h.group g
  rw [hg]
  exact hq

theorem State.shortens_setGroup {s : State} {g : GroupId} {x : Group} (h : x.queue.Sublist (s.group g).queue) :
    s.Shortens (s.setGroup g x) := fun g' => by
  rw [State.group_setGroup]
  split
  · next hg => rw [← hg]; exact h
  · exact .refl _

theorem State.shortens_letIn {s : State} {g : GroupId} {x : Group} {h : Handle} {p : Permit} (hp : s.blockedPermit h = some p)
    (hx : x.queue.Sublist (s.group g).queue) : s.Shortens ((s.setGroup g x).enterActive h.slot true) := fun g' => by
  rw [State.group_letIn hp]
  split
  · next hg => rw [hg]; exact hx
  · exact .refl _

theorem State.shortens_grant (s : State) (g : GroupId) : s.Shortens (s.grant g) :=
  (State.grant_keeps (P := s.Shortens) (fun _ => .refl _)
    (fun _ _ _ _ hq hp _ => State.shortens_letIn hp (by rw [hq]; exact List.sublist_cons_self ..))
    fun _ _ _ _ _ ht hq _ hp _ => ht.trans (State.shortens_letIn hp (by rw [hq]; exact List.sublist_cons_self ..))).1

theorem State.shortens_releaseGroups (s : State) : s.Shortens s.releaseGroups :=
  foldl_keeps (P := s.Shortens) (fun t g ht => by
    split
    · refine ht.trans ?_
      unfold State.releaseGroup
      dsimp only
      split
      · exact (State.shortens_setGroup (x := { t.group g with state := .free }) (.refl _)).trans (State.shortens_grant _ g)
      · exact State.shortens_setGroup (.refl _)
    · exact ht) _ (fun g => by rw [State.group_drawn])

/-- After the abnormal end of a BLOCKED permit no queue holds it (R98). -/
theorem State.unqueued_endAbnormal {s : State} {i : SlotId} {q : Permit} (here : s.permit i = some q) (hb : q.state = .blocked)
    (r : EndReason) (g : GroupId) : s.handle i ∉ ((s.endAbnormal i r).group g).queue := by
  have hended : ∀ u : State, (∀ j, u.slot j = s.slot j) → ∀ g, s.handle i ∉ ((u.enterEnded i r).group g).queue := by
    intro u hu g hmem
    have hp : u.permit i = some q := by rw [State.permit, hu]; exact here
    have hh : u.handle i = s.handle i := by rw [State.handle, hu]; rfl
    rw [(State.letsGo_enterEnded hp r).group g, List.mem_filter, State.waitingAt_of_permit hp, if_pos hb, hh] at hmem
    simp at hmem
  unfold State.endAbnormal
  split
  · have hafter : (s.enterEnded i r).Shortens (((s.enterEnded i r).releaseGroups.raise i .ended).retireIfOrphan i) := by
      refine (State.shortens_releaseGroups _).trans ((State.Shortens.of_groups (State.group_raise _ i .ended)).trans ?_)
      refine (State.steady_retireIfOrphan (State.grips_raise .ended (State.grips_releaseGroups State.grips_enterEnded))).drops.shortens
    exact fun hmem => hended s (fun _ => rfl) g ((hafter g).mem hmem)
  · have hending := State.ending_endMany (work := [(i, r)]) (by simp) s
    generalize s.endMany [(i, r)] = t at hending ⊢
    cases hending with
    | step perm next =>
      obtain ⟨hhead, -⟩ := List.cons.inj (List.perm_singleton.mp perm.symm)
      cases hhead
      have hone : (s.drawn.enterEnded i r).Shortens (s.drawn.endOne i r) :=
        ((State.steady_raise _ i .ended).drops.trans
          (State.steady_retireIfOrphan (State.grips_raise .ended State.grips_enterEnded)).drops).shortens
      exact fun hmem => hended s.drawn (fun _ => rfl) g
        (((hone.trans next.drops.shortens).trans t.shortens_releaseGroups g).mem hmem)

end Sys2Proof.Machine

open Sys2Proof Sys2Proof.Machine

set_option Elab.async false

/-- Settles O34: RELEASE is one normal end of a permit with an owner, whose slot it therefore keeps. -/
theorem releaseEndsNormally : Obligations.ReleaseEndsNormally := by
  intro s p f h i q hturn hpasses hservice
  have here := hpasses.permit
  have howned : q.owner ≠ none := by rw [hpasses.2.2]; exact nofun
  have hwhole := State.whole_endNormal (k := .ends) rfl s i .released
  have hslots : (s.endNormal i .released).settleLevels.slots = (s.endNormal i .released).slots := (State.marks_settleLevels _).slots
  have hbides := State.bides_relayed (s := s) (i := i) .released
  refine ⟨(s.endNormal i .released).settleLevels,
    congrArg Host.Outcome.next (hpasses.execute_settled hturn rfl (State.checked_passes (by simp [hservice]))),
    (s.moves_endNormal i .released).trans (State.moves_settleLevels _), State.settles_settleLevels hwhole.beats.levels, ?_, ?_, fun j => ?_,
    State.handsOn_endNormal here .released⟩
  · rw [(State.marks_settleLevels _).due, State.endNormal_owned here howned, hbides.due, State.due_enterEnded here]
    exact List.filter_congr fun d _ => Due.not_isFor _ d
  · exact State.endsAs_of_slot here .released (by rw [State.slot_of_slots hslots, State.slot_endNormal_self here])
  · rw [State.slot_of_slots hslots, State.endNormal_owned here howned, hbides.gen, State.gen_enterEnded]

/-- Settles O37: the last tick of a phase makes an activation request, or is a normal end, an abnormal end or a rest. -/
theorem phasesEndAtTheirLastTick : Obligations.PhasesEndAtTheirLastTick := by
  intro s i q hlow here hdue
  have here0 : (s.tickTaken i).permit i = some q := here
  have htook : s.Took (s.tickTaken i) := s.took_due _
  obtain ⟨hmoves, hsettles, happends⟩ := s.frame_permitTick i
  have hexec : ∀ test : Permit → Bool, test q = true → (Host.Outcome.next (s.takePermitTick i test) : Host.Outcome State Fault Refusal) =
      .next ((s.tickTaken i).permitTick i).settleLevels := fun test h => by
    rw [State.takePermitTick_eq hlow here hdue h]
  have hslots : ∀ t : State, t.settleLevels.slots = t.slots := fun t => t.marks_settleLevels.slots
  refine ⟨fun hs hr => ?_, fun hs hr => ?_, fun hs hr hshape => ?_, fun rest repeats hs hr hshape => ?_, fun src m hs hr hshape => ?_,
    fun b hs hb hage => ?_⟩
  · refine (hexec _ (Permit.lastTick_of hs hr)).trans ?_
    rw [State.permitTick_counts here0 (.inl hs), if_pos (by omega), hr]
  · refine (hexec _ (Permit.lastTick_of hs hr)).trans ?_
    rw [State.permitTick_counts here0 (.inr hs), if_pos (by omega), hr]
  · refine ⟨_, hexec _ (by simp [Permit.lastTick_of hs hr, hshape]), hmoves, hsettles, ?_⟩
    rw [State.permitTick_pulse here0 hs hr hshape]
    exact ⟨State.endsAs_of_slot here _ (by rw [State.slot_of_slots (hslots _)]; exact State.slot_endNormal_self here0 _),
      State.HandsOn.of_due (State.handsOn_endNormal here0 .completed)⟩
  · refine ⟨_, hexec _ (by simp [Permit.lastTick_of hs hr, hshape, Shape.isTrain]), hmoves, hsettles, happends, fun hc => ?_, fun hc => ?_⟩
    · rw [State.permitTick_trainCompletes here0 hs hr hshape hc]
      exact ⟨State.endsAs_of_slot here _ (by rw [State.slot_of_slots (hslots _)]; exact State.slot_endNormal_self here0 _),
        State.HandsOn.of_due (State.handsOn_endNormal here0 .completed)⟩
    · rw [State.permitTick_trainRests here0 hs hr hshape hc]
      exact State.rests (s := s.tickTaken i) (hslots _)
  · refine ⟨_, hexec _ (by simp [Permit.lastTick_of hs hr, hshape, Shape.isLease]), hmoves, hsettles, happends, ?_⟩
    rw [State.permitTick_lease here0 hs hr hshape]
    have htwins : s.Twins ((s.tickTaken i).setPermit i q.countHold) fun k => k = i := State.twins_setPermit (q' := q.countHold) rfl here rfl rfl
    obtain ⟨hends, hleaves⟩ := State.leaves_endAbnormal (s := (s.tickTaken i).setPermit i q.countHold) (i := i) (p := q.countHold)
      (by simp) .expired (hslots _)
    have hends' := htwins.endsAs.mp hends
    have hcount : q.countHold.endedBy .expired =
        Permit.endedBy { q with renewalAge := if m = 0 then q.renewalAge else min m (q.renewalAge + 1) } .expired := by
      rw [Permit.countHold, hshape]; rfl
    unfold State.EndsAs at hends' ⊢
    rw [hcount] at hends'
    exact ⟨hends', htwins.endsLeave hleaves⟩
  · refine ⟨_, hexec _ (by simp [Permit.starvesNext, hs, hb, hage]), hmoves, hsettles, happends, ?_⟩
    rw [State.permitTick_blocked here0 hs, State.blockedTickAt_limit _ i hb, if_pos hage]
    have here1 : ((s.tickTaken i).setPermit i { q with blockedAge := q.blockedAge + 1 }).permit i =
        some { q with blockedAge := q.blockedAge + 1 } := by simp
    have htwins : s.Twins ((s.tickTaken i).setPermit i { q with blockedAge := q.blockedAge + 1 }) fun k => k = i :=
      State.twins_setPermit (q' := { q with blockedAge := q.blockedAge + 1 }) rfl here rfl rfl
    obtain ⟨hends, hleaves⟩ := State.leaves_endAbnormal here1 .starved (hslots _)
    refine ⟨htwins.endsAs.mp hends, htwins.endsLeave hleaves, fun g => ?_⟩
    rw [(State.marks_settleLevels _).group, ← htwins.handle]
    exact State.unqueued_endAbnormal here1 hs .starved g

end

section
/-! SUPPORT. What the releases of a happening leave of each group (R94, R96, R99). -/

namespace Sys2Proof.Machine

set_option Elab.async false

/-! ### One group's release leaves the others (R94) -/

theorem State.group_grant_other (s : State) {g g' : GroupId} (h : g ≠ g') : (s.grant g').group g = s.group g :=
  (State.grant_keeps (P := fun t : State => t.group g = s.group g) rfl
    (fun _ _ _ _ _ hp _ => by rw [State.group_letIn hp, if_neg h])
    fun _ _ _ _ _ ht _ _ hp _ => by rw [State.group_letIn hp, if_neg h]; exact ht).1

theorem State.group_releaseGroup_other (s : State) {g g' : GroupId} (h : g ≠ g') : (s.releaseGroup g').group g = s.group g := by
  unfold State.releaseGroup
  dsimp only
  split
  · rw [State.group_grant_other _ h, State.group_setGroup, if_neg (Ne.symm h)]
  · rw [State.group_setGroup, if_neg (Ne.symm h)]

/-- Grants that leave a group as it was add no claim to its members: who waits for it waits on (R84, R91, R97). -/
theorem State.QueuesHold.claims_of_grants {s t : State} (hs : s.QueuesHold) (ht : t.QueuesHold) (hgrants : s.Grants t) {g : GroupId}
    (hg : t.group g = s.group g) {l : LineId} (hl : (s.group g).has l = true) : (t.line l).claims = (s.line l).claims := by
  rw [State.claimLaw_iff.mp ht.groups.claim l, State.claimLaw_iff.mp hs.groups.claim l]
  congr 1
  refine List.filter_congr fun j _ => ?_
  obtain hsame | ⟨q, hq, hb, hj⟩ := hgrants j
  · rw [State.claimsAt, State.claimsAt, State.permit, hsame]; rfl
  · have hin : t.permit j = some q.granted := by rw [State.permit, hj]
    rw [State.claimsAt_of_ne hq (by rw [hb]; exact nofun), State.claimsAt_of_permit hin, Permit.state_granted]
    by_contra hclaims
    have hnames : q.names l = true := by
      rw [Permit.names, ← q.granted_counts.1]
      simpa [Permit.names] using hclaims
    have hwaits := (hs.standing hq hnames hl).2 hb
    have hhandle : t.handle j = s.handle j := by rw [State.handle, State.handle, hj]
    rw [← hg, ← hhandle] at hwaits
    obtain ⟨ls, hw, -⟩ := State.blockedOn_iff.mp (((ht.match_ g).2 _).mp hwaits)
    rw [State.slot_handle] at hw
    obtain ⟨p, hp, hpb, -⟩ := State.waitingAt_eq_some.mp hw
    rw [hin] at hp
    cases hp
    rw [Permit.state_granted] at hpb
    cases hpb

/-- A group with the same claims of its members is released or not as before. -/
theorem State.QueuesHold.holderReleased_same {s t : State} (hs : s.QueuesHold) {g : GroupId} (hg : t.group g = s.group g)
    (hc : ∀ l, (s.group g).has l = true → (t.line l).claims = (s.line l).claims) : t.holderReleased g = s.holderReleased g := by
  rw [Bool.eq_iff_iff, State.holderReleased_iff, State.holderReleased_iff, hg]
  refine exists_congr fun l => and_congr_right fun hl => ?_
  rw [hc l ((hs.groups.bounded g).2 l hl)]

theorem State.QueuesHold.releaseGroup {s : State} (h : s.QueuesHold) {g : GroupId} (hr : s.holderReleased g = true) :
    (s.releaseGroup g).QueuesHold := (State.change_releaseGroup (k := .run) hr).queuesHold h

/-- The head of a queue is BLOCKED on its group (R97). -/
theorem State.QueuesHold.head {s : State} (h : s.QueuesHold) {g : GroupId} {x : Handle} (hx : x ∈ (s.group g).queue) :
    ∃ p l, s.blockedPermit x = some p ∧ s.memberLine g p = some l := by
  obtain ⟨ls, hw, hmeets⟩ := State.blockedOn_iff.mp (((h.match_ g).2 x).mp hx)
  obtain ⟨p, hp, hb, he⟩ := State.waitingAt_eq_some.mp hw
  obtain ⟨hxh, hls⟩ := Prod.mk.inj he
  have hline : (s.memberLine g p).isSome = true := State.memberLine_isSome.mpr (hls ▸ hmeets)
  obtain ⟨l, hl⟩ := Option.isSome_iff_exists.mp hline
  exact ⟨p, l, State.blockedPermit_eq_some.mpr ⟨State.resolve_eq_some.mpr ⟨hxh, hp⟩, hb⟩, hl⟩

/-! ### What the releases leave of a group (R94, R99) -/

/-- A group as the releases leave it: one whose holder line has claims is as it was; one that is released is in GAP with its whole gap,
or with a gap of 0 FREE where it has no queue, and otherwise without the head of its queue. -/
def State.Releases (s t : State) (g : GroupId) : Prop :=
  (s.holderReleased g = false → t.group g = s.group g) ∧
  (s.holderReleased g = true →
    (0 < (s.group g).gap → t.group g = { s.group g with state := .gap (s.group g).gap }) ∧
    ((s.group g).gap = 0 → (s.group g).queue = [] → t.group g = { s.group g with state := .free }) ∧
    ((s.group g).gap = 0 → ∀ h rest, (s.group g).queue = h :: rest → h ∉ (t.group g).queue))

theorem State.QueuesHold.releases_releaseGroup {s : State} (hs : s.QueuesHold) {g : GroupId} (hr : s.holderReleased g = true) :
    s.Releases (s.releaseGroup g) g ∧ (s.releaseGroup g).holderReleased g = false := by
  have hafter := hs.releaseGroup hr
  have hlive : ∀ l, ((s.releaseGroup g).group g).state = .held l → 0 < ((s.releaseGroup g).line l).claims := by
    have hall : s.HoldersClaimIn fun _ => False := fun _ h => h.elim
    unfold State.releaseGroup
    dsimp only
    split
    · exact State.holdersClaimIn_frees hall g (.inr rfl)
    · exact hall.leaves (x := .gap _) (fun _ h => nomatch h) g (.inr rfl)
  refine ⟨⟨fun hn => absurd (hn.symm.trans hr) nofun, fun _ => ⟨fun hgap => ?_, fun hgap hq => ?_, fun hgap h rest hq => ?_⟩⟩, ?_⟩
  · rw [State.releaseGroup]
    dsimp only
    rw [if_neg (by omega), State.group_setGroup, if_pos rfl]
  · obtain ⟨l, hl, -⟩ := State.holderReleased_iff.mp hr
    rw [State.releaseGroup_unqueued hl hq, State.group_setGroup, if_pos rfl, Group.released_held hl, if_pos hgap]
  · have hfree : s.releaseGroup g = (s.setGroup g { s.group g with state := .free }).grant g := if_pos hgap
    obtain ⟨p, l, hp, hm⟩ := hs.head (x := h) (by rw [hq]; exact List.mem_cons_self)
    have hmember := State.memberLine_of_members (s := s) (t := s.setGroup g { s.group g with state := .free }) (fun g' => by
      rw [State.group_setGroup]
      split
      · next he => rw [he]
      · rfl) g
    obtain ⟨k, hk⟩ := State.grantTakes (s := s.setGroup g { s.group g with state := .free }) (g := g) (h := h) (rest := rest) (q := p) (l := l)
      (by rw [State.group_setGroup, if_pos rfl]; exact hq) hp
      ((hmember p).trans hm)
    rw [hfree, hk.group]
    have hnodup := (hs.match_ g).1
    rw [hq, List.nodup_cons] at hnodup
    exact fun hmem => hnodup.1 (List.mem_of_mem_drop hmem)
  · rw [Bool.eq_false_iff, ne_eq, State.holderReleased_iff]
    rintro ⟨l, hl, h0⟩
    have := hlive l hl
    omega

theorem State.QueuesHold.releases_foldl {xs : List GroupId} {s : State} (hs : s.QueuesHold) {g : GroupId}
    (hg : s.holderReleased g = true → g ∈ xs) :
    s.Releases (xs.foldl (fun s g => if s.holderReleased g then s.releaseGroup g else s) s) g := by
  induction xs generalizing s with
  | nil =>
    refine ⟨fun _ => rfl, fun hr => ?_⟩
    cases hg hr
  | cons g' rest ih =>
    rw [List.foldl_cons]
    by_cases hr' : s.holderReleased g' = true
    · rw [if_pos hr']
      have hs' := hs.releaseGroup hr'
      by_cases hgg : g = g'
      · subst hgg
        obtain ⟨hrel, hdone⟩ := hs.releases_releaseGroup hr'
        have hlast := (ih hs' fun h => by rw [hdone] at h; cases h).1 hdone
        refine ⟨fun hn => absurd (hn.symm.trans hr') nofun, fun hr => ?_⟩
        rw [hlast]
        exact hrel.2 hr
      · have hsame := s.group_releaseGroup_other hgg
        have hreleased := hs.holderReleased_same hsame fun l hl => hs.claims_of_grants hs' (s.grants_releaseGroup g') hsame hl
        have := ih hs' fun h => (List.mem_cons.mp (hg (hreleased.symm.trans h))).resolve_left hgg
        unfold State.Releases at this ⊢
        rwa [hreleased, hsame] at this
    · rw [if_neg hr']
      exact ih hs fun h => (List.mem_cons.mp (hg h)).resolve_left fun he => hr' (he ▸ h)

theorem State.QueuesHold.releases {s : State} (hs : s.QueuesHold) (g : GroupId) : s.Releases s.releaseGroups g := by
  have hd : s.drawn.QueuesHold := (State.Change.drawn (k := .run)).queuesHold hs
  have := hd.releases_foldl (xs := s.freeGroups (allGroups.filter s.holderReleased)) (g := g) fun h => by
    rw [State.freeGroups, mem_orderByKey, List.mem_filter]
    exact ⟨List.mem_finRange g, h⟩
  exact this

theorem State.QueuesHold.releaseGroups {s : State} (hs : s.QueuesHold) : s.releaseGroups.QueuesHold :=
  (State.via_releaseGroups (k := .run) s).queuesHold hs

end Sys2Proof.Machine
end

section
/-! SUPPORT. What a happening that takes permits off their claims and out of their queues leaves of a group, once the releases are taken
(R94, R96, R98, R99). -/

namespace Sys2Proof.Machine

set_option Elab.async false

/-! ### Permits that leave (R98) -/

/-- Just the permits of some slots have let go of their claims and queue places, no group has taken a release, and no permit has come
into service. -/
structure State.Parts (s u : State) (leaves : SlotId → Bool) : Prop where
  drops : s.Drops u
  served : ∀ j p', u.permit j = some p' → p'.state.inService = true → ∃ p, s.permit j = some p ∧ p.state.inService = true ∧ p'.lines = p.lines
  claimsAt : ∀ j l, u.claimsAt j l = (!leaves j && s.claimsAt j l)
  waitingAt : ∀ j, u.waitingAt j = if leaves j = true then none else s.waitingAt j

theorem State.Parts.meets {s u : State} {leaves : SlotId → Bool} (h : s.Parts u leaves) (g : GroupId) (ls : LineSet) :
    u.meets g ls ↔ s.meets g ls := by
  obtain ⟨q, -, hg⟩ := h.drops.group g
  simp only [State.meets, Group.has, hg]

theorem State.Parts.blockedOn {s u : State} {leaves : SlotId → Bool} (h : s.Parts u leaves) (g : GroupId) (x : Handle) :
    u.blockedOn g x = true ↔ leaves x.slot = false ∧ s.blockedOn g x = true := by
  simp only [State.blockedOn_iff, h.waitingAt, h.meets]
  cases leaves x.slot <;> simp

theorem sublist_eq_filter {α : Type} {p : α → Bool} {xs ys : List α} (h : xs.Sublist ys) (hn : ys.Nodup)
    (hp : ∀ x ∈ ys, x ∈ xs ↔ p x = true) : xs = ys.filter p := by
  have hx : xs.Sublist (ys.filter p) := by
    have hself : xs.filter p = xs := List.filter_eq_self.mpr fun x hx => (hp x (h.subset hx)).mp hx
    exact hself ▸ h.filter p
  refine hx.eq_of_length ((List.perm_ext_iff_of_nodup (hn.sublist h) (hn.filter p)).mpr fun x => ?_).length_eq
  rw [List.mem_filter]
  exact ⟨fun hx => ⟨h.subset hx, (hp x (h.subset hx)).mp hx⟩, fun ⟨hy, hx⟩ => (hp x hy).mpr hx⟩

/-- The queue loses the permits that leave and keeps the order of the others (R98). -/
theorem State.Parts.groupLeft {s u : State} {leaves : SlotId → Bool} (h : s.Parts u leaves) (hs : s.QueuesMatch) (g : GroupId) :
    u.group g = { s.group g with queue := (s.group g).queue.filter fun x => !leaves x.slot } := by
  obtain ⟨q, hsub, hg⟩ := h.drops.group g
  have hq : q = (s.group g).queue.filter fun x => !leaves x.slot := sublist_eq_filter hsub (hs g).1 fun x hx => by
    have hin : x ∈ q ↔ u.blockedOn g x = true := by
      have := (h.drops.queuesMatch hs g).2 x
      rwa [hg] at this
    rw [hin, h.blockedOn, Bool.not_eq_true']
    exact ⟨fun h => h.1, fun hl => ⟨hl, ((hs g).2 x).mp hx⟩⟩
  rw [hg, hq]

/-- The claims left are those of the claimants that stay (R84). -/
theorem State.Parts.claims {s u : State} {leaves : SlotId → Bool} (h : s.Parts u leaves) (hs : s.ClaimLaw) (l : LineId) :
    (u.line l).claims = ((s.claimants l).filter fun j => !leaves j).length := by
  rw [State.claimLaw_iff.mp (h.drops.claimLaw hs), State.claimants_eq, List.filter_filter]
  congr 1
  exact List.filter_congr fun j _ => h.claimsAt j l

theorem State.Parts.members {s u : State} {leaves : SlotId → Bool} (h : s.Parts u leaves) (g : GroupId) :
    (u.group g).members = (s.group g).members := by
  obtain ⟨q, -, hg⟩ := h.drops.group g
  rw [hg]

/-- What leaves, leaves the groups, the queues and the claims in agreement. -/
theorem State.Parts.queuesHold {s u : State} {leaves : SlotId → Bool} (h : s.Parts u leaves) (hs : s.QueuesHold) : u.QueuesHold where
  groups :=
    { claim := h.drops.claimLaw hs.groups.claim
      members := hs.groups.members.of_members h.members
      grouped := fun j p' hp' hin => by
        obtain ⟨p, hp, hpin, hlines⟩ := h.served j p' hp' hin
        rw [hlines, State.groupedCount_of_members h.members]
        exact hs.groups.grouped j p hp hpin
      bounded := fun g => by
        obtain ⟨q, -, hg⟩ := h.drops.group g
        refine ⟨fun l hl hpos => ?_, fun l hl => ?_⟩
        · rw [hg] at hl ⊢
          refine (hs.groups.bounded g).1 l hl (Nat.lt_of_lt_of_le hpos ?_)
          rw [h.claims hs.groups.claim, hs.groups.claim l]
          exact List.length_filter_le ..
        · rw [hg] at hl ⊢
          exact (hs.groups.bounded g).2 l hl }
  blocked := State.blockedLaw_iff.mpr fun i w hw => by
    rw [h.waitingAt] at hw
    split at hw
    · cases hw
    · obtain ⟨g, hg⟩ := State.blockedLaw_iff.mp hs.blocked i w hw
      exact ⟨g, (h.meets g _).mpr hg⟩
  match_ := h.drops.queuesMatch hs.match_
  free g hfree := by
    obtain ⟨q, hsub, hg⟩ := h.drops.group g
    rw [hg] at hfree ⊢
    rw [hs.free g hfree] at hsub
    exact List.sublist_nil.mp hsub

theorem State.LetsGo.parts {s t : State} {i : SlotId} (h : s.LetsGo t i) (hserved : ∀ j p', t.permit j = some p' →
    p'.state.inService = true → ∃ p, s.permit j = some p ∧ p.state.inService = true ∧ p'.lines = p.lines) : s.Parts t fun j => j = i where
  drops := h.drops
  served := hserved
  claimsAt j l := by rw [h.claimsAt, ← decide_not]
  waitingAt j := by rw [h.waitingAt]; simp only [decide_eq_true_eq]

/-! ### A BLOCKED permit that does not leave (R94, R96) -/

/-- A BLOCKED permit waits on, or has been granted its group; as an orphan it may have lost what an orphan loses. -/
def State.WaitsOn (s t : State) (j : SlotId) : Prop :=
  ∀ r, s.permit j = some r → r.state = .blocked → t.handle j = s.handle j ∧
    ∃ r0 : Permit, r0.state = .blocked ∧ r0.lines = r.lines ∧ r0.hold = r.hold ∧ (r.owner ≠ none → r0.owner = r.owner → r0 = r) ∧
      (t.permit j = some r0 ∨ t.permit j = some r0.granted)

theorem State.unreferenced_hold (s : State) (gone : SlotId → Bool) (q : Permit) : (s.unreferenced gone q).hold = q.hold := by
  unfold State.unreferenced
  split <;> rfl

theorem State.Stays.waitsOn {s t : State} {gone : SlotId → Bool} {j : SlotId}
    (h : ∀ r, s.permit j = some r → r.state = .blocked → s.Stays t gone j r) : s.WaitsOn t j := by
  intro r hr hb
  obtain ⟨hgen, hstay⟩ := h r hr hb
  refine ⟨by rw [State.handle, State.handle, hgen], s.unreferenced gone r, ?_, (s.unreferenced_stands gone r).1,
    s.unreferenced_hold gone r, fun ho _ => if_pos ho, hstay.imp id And.right⟩
  rw [State.state_unreferenced, hb]

/-- The head of a queue that a release has reached holds its group (R94, R96). -/
theorem State.QueuesHold.grantsHead {s t : State} (hs : s.QueuesHold) (ht : t.QueuesHold) (hl : t.LevelLaw) {g : GroupId}
    (hm : (t.group g).members = (s.group g).members) {h : Handle} (hin : h ∈ (s.group g).queue) (hout : h ∉ (t.group g).queue)
    (hw : s.WaitsOn t h.slot) : s.GrantsHead t g h := by
  obtain ⟨r, l, hr, hline⟩ := hs.head hin
  obtain ⟨hres, hb⟩ := State.blockedPermit_eq_some.mp hr
  obtain ⟨hhandle, hpermit⟩ := State.resolve_eq_some.mp hres
  obtain ⟨hth, r0, h0b, h0lines, h0hold, h0same, hcase⟩ := hw r hpermit hb
  obtain ⟨hnames, hhas⟩ := State.memberLine_eq_some hline
  have hthas : (t.group g).has l = true := by rwa [Group.has, hm]
  have h0names : r0.names l = true := by rwa [Permit.names, h0lines]
  obtain hwaits | hgranted := hcase
  · have := (ht.standing hwaits h0names hthas).2 h0b
    rw [hth, ← hhandle] at this
    exact absurd this hout
  · obtain ⟨hlines, hremaining⟩ := r0.granted_counts
    have hgnames : r0.granted.names l = true := by rwa [Permit.names, hlines]
    refine ⟨r, r0.granted, l, hres, hline, (ht.standing hgranted hgnames hthas).1 (Permit.state_granted r0), ?_, hout, hgranted,
      Permit.state_granted r0, hremaining.trans h0hold, fun ho hsame => ?_⟩
    · have hclaim : (t.claimsAt h.slot l).toNat ≤ (t.line l).claims := ht.groups.claim.le h.slot l
      rw [State.claimsAt_of_permit hgranted, Permit.state_granted, hgnames] at hclaim
      rw [hl l]
      exact decide_eq_true hclaim
    · have hg : r0.granted.owner = r0.owner := Permit.owner_raised _ _
      rw [h0same ho (hg.symm.trans hsame)]

/-! ### The group once the releases are taken (R94, R96, R99) -/

theorem State.Parts.groupTakes {s u t : State} {leaves : SlotId → Bool} (h : s.Parts u leaves) (hs : s.QueuesHold)
    (hst : u.releaseGroups.Steady t) (ht : t.QueuesHold) (hl : t.LevelLaw) (hw : ∀ j, leaves j = false → s.WaitsOn t j) (g : GroupId) :
    s.GroupTakes t leaves g := by
  have hu := h.queuesHold hs
  have hleft := h.groupLeft hs.match_ g
  have hstate : (u.group g).state = (s.group g).state := by rw [hleft]
  obtain ⟨hkept, hreleased⟩ := hu.releases g
  rw [← hst.group g] at hkept hreleased
  have hidle : ∀ l, (t.group g).state ≠ .held l → (t.group g).has l = true → (t.line l).claims = 0 := fun l hne hhas => by
    by_contra hpos
    exact hne ((ht.groups.bounded g).1 l hhas (Nat.pos_of_ne_zero hpos))
  refine ⟨fun hn => ?_, fun l left claims hheld hql hcl => ?_⟩
  · rw [← hleft]
    refine hkept (Bool.eq_false_iff.mpr fun hr => ?_)
    obtain ⟨l, hlh, -⟩ := State.holderReleased_iff.mp hr
    exact hn l (hstate.symm.trans hlh)
  · have hclaims : (u.line l).claims = claims := (h.claims hs.groups.claim l).trans hcl.symm
    have hhas : (u.group g).has l = true := (hu.groups.bounded g).2 l (hstate.trans hheld)
    have hrel : claims = 0 → u.holderReleased g = true := fun h0 =>
      State.holderReleased_iff.mpr ⟨l, hstate.trans hheld, hclaims.trans h0⟩
    rw [hleft] at hreleased hhas
    subst hql
    refine ⟨fun hpos => ?_, fun h0 hgap => ?_, fun h0 hgap hq => ?_, fun h0 hgap x rest hq => ?_⟩
    · have hsame := hkept (Bool.eq_false_iff.mpr fun hr => by
        obtain ⟨l', hl', h0⟩ := State.holderReleased_iff.mp hr
        rw [hstate, hheld] at hl'
        cases hl'
        omega)
      refine ⟨hsame.trans hleft, ?_⟩
      rw [hst.claims, hu.claims_of_grants hu.releaseGroups u.grants_releaseGroups ((hst.group g).symm.trans hsame)
        (by rw [hleft]; exact hhas), hclaims]
    · have hg := (hreleased (hrel h0)).1 hgap
      refine ⟨hg, hidle l ?_ ?_⟩
      · rw [hg]; exact nofun
      · rw [hg]; exact hhas
    · have hg := (hreleased (hrel h0)).2.1 hgap hq
      dsimp only at hg
      rw [hq] at hg
      refine ⟨hg, hidle l ?_ ?_⟩
      · rw [hg]; exact nofun
      · rw [hg]; exact hhas
    · have hmem : x ∈ (s.group g).queue.filter fun x => !leaves x.slot := by rw [hq]; exact List.mem_cons_self
      obtain ⟨hin, hstays⟩ := List.mem_filter.mp hmem
      refine hs.grantsHead ht hl ?_ hin ((hreleased (hrel h0)).2.2 hgap x rest hq) (hw _ (by simpa using hstays))
      rw [hst.group, (State.beats_releaseGroups u).stands.members, hleft]

end Sys2Proof.Machine
end

section
/-! SUPPORT. The causes of a release: ends, stops, locks and teardowns, each as permits that leave and the releases after (R94). -/

namespace Sys2Proof.Machine

set_option Elab.async false

theorem State.Steady.trans {s t u : State} (h : s.Steady t) (k : t.Steady u) : s.Steady u where
  claimsAt i l := (k.claimsAt i l).trans (h.claimsAt i l)
  waitingAt i := (k.waitingAt i).trans (h.waitingAt i)
  claims l := (k.claims l).trans (h.claims l)
  group g := (k.group g).trans (h.group g)

theorem State.steady_settleLevels (s : State) : s.Steady s.settleLevels := s.marks_settleLevels.steady

/-! ### Abnormal ends (R38, R63) -/

section
variable {s u t : State} {work : List (SlotId × EndReason)} {why : SlotId → Option EndReason} {leaves : SlotId → Bool}
  (h : s.EndsBy u work why) (hb : s.Begins work leaves)
include h hb

/-- Whatever ends beyond what the happening names holds no claim and no queue place: it awaits its trigger (R63). -/
theorem State.EndsBy.free_of_spared {j : SlotId} {r : EndReason} (hw : why j = some r) (hj : leaves j = false) :
    ∃ q, s.permit j = some q ∧ grips q.state = false := by
  obtain hwork | ⟨-, i, q, -, hq, hawaits, -⟩ := h.only j r hw
  · rw [(hb.named j).mpr ⟨r, hwork⟩] at hj
    cases hj
  · refine ⟨q, hq, ?_⟩
    cases hs : q.state with
    | active | blocked => rw [hs] at hawaits; cases hawaits
    | _ => rfl

theorem State.EndsBy.ends_of_leaves {j : SlotId} (hj : leaves j = true) : ∃ r, why j = some r := by
  obtain ⟨r, hwork⟩ := (hb.named j).mp hj
  exact ⟨r, h.begins _ hwork⟩

omit hb in
theorem State.EndsBy.free_of_ends {j : SlotId} {r : EndReason} (hw : why j = some r) :
    (∀ l, u.claimsAt j l = false) ∧ u.waitingAt j = none := by
  have hout : ∀ p, u.permit j = some p → grips p.state = false := fun p hp => by
    by_contra hgrips
    have hin : p.state.inService = true := by
      cases hs : p.state <;> simp_all [grips, PState.inService]
    have := (h.inService hp hin).1
    rw [hw] at this
    cases this
  cases hp : u.permit j with
  | none => exact ⟨fun l => by rw [State.claimsAt, hp]; rfl, by rw [State.waitingAt, hp]; rfl⟩
  | some p => exact State.free_of_grips hp (hout p hp)

omit hb in
theorem State.EndsBy.holds_of_stays {j : SlotId} (hw : why j = none) :
    (∀ l, u.claimsAt j l = s.claimsAt j l) ∧ u.waitingAt j = s.waitingAt j := by
  have hslot := h.slots j
  rw [hw] at hslot
  dsimp only at hslot
  have hhandle : u.handle j = s.handle j := by rw [State.handle, State.handle, hslot]
  have hpermit : u.permit j = (s.permit j).map (s.unreferenced (s.orphansOf fun k => (why k).isSome)) := by rw [State.permit, hslot]
  cases hp : s.permit j with
  | none =>
    rw [hp] at hpermit
    exact ⟨fun l => by rw [State.claimsAt, State.claimsAt, hp, hpermit]; rfl, by rw [State.waitingAt, State.waitingAt, hp, hpermit]; rfl⟩
  | some q =>
    rw [hp] at hpermit
    obtain ⟨hlines, hstate⟩ := s.unreferenced_stands (s.orphansOf fun k => (why k).isSome) q
    refine ⟨fun l => ?_, ?_⟩
    · rw [State.claimsAt_of_permit hpermit, State.claimsAt_of_permit hp, Permit.names, Permit.names, hlines, hstate]
    · rw [State.waitingAt_of_permit hpermit, State.waitingAt_of_permit hp, hlines, hstate, hhandle]

theorem State.EndsBy.parts (hd : s.Drops u) : s.Parts u leaves where
  drops := hd
  served j p' hp' hin := by
    obtain ⟨-, p, hp, hs, hl⟩ := h.inService hp' hin
    exact ⟨p, hp, hs ▸ hin, hl.symm⟩
  claimsAt j l := by
    cases hw : why j with
    | none =>
      have hj : leaves j = false := Bool.eq_false_iff.mpr fun hj => by
        obtain ⟨r, hr⟩ := h.ends_of_leaves hb hj
        rw [hw] at hr; cases hr
      rw [(h.holds_of_stays hw).1 l, hj]; rfl
    | some r =>
      rw [(h.free_of_ends hw).1 l]
      cases hj : leaves j with
      | true => rfl
      | false =>
        obtain ⟨q, hq, hgrips⟩ := h.free_of_spared hb hw hj
        rw [(State.free_of_grips hq hgrips).1 l]; rfl
  waitingAt j := by
    cases hw : why j with
    | none =>
      have hj : leaves j = false := Bool.eq_false_iff.mpr fun hj => by
        obtain ⟨r, hr⟩ := h.ends_of_leaves hb hj
        rw [hw] at hr; cases hr
      rw [(h.holds_of_stays hw).2, hj]; rfl
    | some r =>
      rw [(h.free_of_ends hw).2]
      cases hj : leaves j with
      | true => rfl
      | false =>
        obtain ⟨q, hq, hgrips⟩ := h.free_of_spared hb hw hj
        rw [(State.free_of_grips hq hgrips).2]; rfl

theorem State.EndsBy.waitsOn (hg : u.Grants t) {j : SlotId} (hj : leaves j = false) : s.WaitsOn t j :=
  State.Stays.waitsOn fun r hr hblocked => h.stays hg hr (by
    cases hw : why j with
    | none => rfl
    | some _ =>
      obtain ⟨q, hq, hgrips⟩ := h.free_of_spared hb hw hj
      rw [hr] at hq
      cases hq
      rw [hblocked] at hgrips
      cases hgrips)

end

/-- Ends that a happening takes before the releases (R107, R114). -/
theorem State.QueuesHold.groupTakes_endMany {s : State} {work : List (SlotId × EndReason)} {leaves : SlotId → Bool} (hs : s.QueuesHold)
    (hn : (work.map Prod.fst).Nodup) (hb : s.Begins work leaves) (g : GroupId) :
    s.GroupTakes (s.endMany work).releaseGroups.settleLevels leaves g := by
  obtain ⟨why, hends⟩ := State.endsBy_endMany (s := s) hn fun w hw => hb.permits _ ((hb.named _).mpr ⟨_, hw⟩)
  exact (hends.parts hb (State.drops_endMany hn s)).groupTakes hs (State.steady_settleLevels _)
    ((State.whole_endMany_release (k := .ends) rfl s work).via.queuesHold hs).settle (State.levelLaw_settleLevels _)
    (fun j hj => hends.waitsOn hb (State.grants_releaseGroups _).settle hj) g

theorem State.served_enterEnded {s : State} {i : SlotId} {r : EndReason} (j : SlotId) (p' : Permit)
    (hp : (s.enterEnded i r).permit j = some p') (hin : p'.state.inService = true) :
    ∃ p, s.permit j = some p ∧ p.state.inService = true ∧ p'.lines = p.lines := by
  obtain ⟨p, hp, ev⟩ := (State.beats_enterEnded (k := .ends) rfl s i r).evolves j p' hp
  exact ⟨p, hp, ev.inService hin, ev.lines⟩

/-- One permit's abnormal end (R38, R63, R94). -/
theorem State.QueuesHold.groupTakes_endAbnormal {s : State} {i : SlotId} {q : Permit} (hs : s.QueuesHold) (here : s.permit i = some q)
    (r : EndReason) (g : GroupId) : s.GroupTakes (s.endAbnormal i r).settleLevels (fun j => j = i) g := by
  have hqueues := (State.whole_endAbnormal (k := .ends) rfl s i r).via.queuesHold hs
  obtain ⟨why, u, hends, hgrants⟩ := State.endsBy_endAbnormal here r
  have hwaits : ∀ j, decide (j = i) = false → s.WaitsOn (s.endAbnormal i r).settleLevels j :=
    fun j hj => hends.waitsOn (State.begins_single here r) hgrants.settle hj
  by_cases halone : (s.waitingSuccessors (s.handle i)).isEmpty = true
  · have heq : s.endAbnormal i r = ((s.enterEnded i r).releaseGroups.raise i .ended).retireIfOrphan i := if_pos halone
    rw [heq] at hqueues hwaits ⊢
    have htail := ((State.steady_raise (s.enterEnded i r).releaseGroups i .ended).trans (State.steady_retireIfOrphan
      (State.grips_raise .ended (State.grips_releaseGroups State.grips_enterEnded)))).trans (State.steady_settleLevels _)
    exact ((State.letsGo_enterEnded here r).parts State.served_enterEnded).groupTakes hs htail hqueues.settle
      (State.levelLaw_settleLevels _) hwaits g
  · have heq : s.endAbnormal i r = (s.endMany [(i, r)]).releaseGroups := if_neg halone
    rw [heq]
    exact hs.groupTakes_endMany (by simp) (State.begins_single here r) g

/-! ### Stops (R34, R54) -/

theorem State.GrantsAt.waitsOn {s t : State} {j : SlotId} (h : s.GrantsAt t j) : s.WaitsOn t j := by
  intro r hr hb
  obtain hsame | ⟨q, hq, -, hgranted⟩ := h
  · exact ⟨by rw [State.handle, State.handle, hsame], r, hb, rfl, rfl, fun _ _ => rfl, .inl (by rw [State.permit, hsame]; exact hr)⟩
  · rw [hr] at hq
    cases hq
    exact ⟨by rw [State.handle, State.handle, hgranted], r, hb, rfl, rfl, fun _ _ => rfl, .inr (by rw [State.permit, hgranted])⟩

theorem State.QueuesHold.groupTakes_stop {s t : State} {i : SlotId} {q q' : Permit} (hs : s.QueuesHold) (here : s.permit i = some q)
    (hin : q.state.inService = true) (hq' : q'.state = .waiting ∨ q'.state = .resting) (hlines : q'.lines = q.lines)
    (hst : ((s.detach i).setPermit i q').releaseGroups.Steady t) (ht : t.QueuesHold)
    (hl : t.LevelLaw) (hslots : ∀ j, j ≠ i → t.slot j = ((s.detach i).setPermit i q').releaseGroups.slot j) (g : GroupId) :
    s.GroupTakes t (fun j => j = i) g := by
  have hgrips : grips q'.state = false := by
    obtain h | h := hq' <;> rw [h] <;> rfl
  have hother : ∀ j, j ≠ i → ((s.detach i).setPermit i q').slot j = s.slot j := fun j hj => by
    rw [State.slot_setPermit, if_neg (Ne.symm hj), State.slot_detach]
  refine ((State.letsGo_setPermit hgrips).parts fun j p' hp' hin' => ?_).groupTakes hs hst ht hl (fun j hj => ?_) g
  · by_cases hji : j = i
    · subst hji
      rw [State.permit_setPermit, if_pos rfl] at hp'
      cases hp'
      exact ⟨q, here, hin, hlines⟩
    · rw [State.permit, hother j hji] at hp'
      exact ⟨p', hp', hin', rfl⟩
  · have hji := of_decide_eq_false hj
    exact (((State.GrantsAt.of_slot (hother j hji)).trans ((State.grants_releaseGroups _).at j)).trans (.of_slot (hslots j hji))).waitsOn

/-! ### Teardown (R150, R151) -/

theorem State.steady_setPort (s : State) (p : Port) (x : PortUnit) : s.Steady (s.setPort p x) :=
  State.steady_of_slots rfl (fun _ => rfl) fun _ => rfl

theorem State.drops_tornDown (s : State) (p : Port) : s.Drops (s.tornDown p) := by
  unfold State.tornDown
  dsimp only
  have hmade := s.steady_orphans fun i => decide (i ∈ s.slotsWith fun q => s.ownedBy p q && q.outlivesSession)
  simp only [decide_eq_true_eq] at hmade
  exact (foldl_keeps (P := s.Drops) (fun t i ht => ht.trans ((t.letsGo_or_steady_scraps i).elim State.Steady.drops State.LetsGo.drops)) _
    hmade.drops).trans (State.steady_setPort _ p _).drops

theorem State.handedOn_counts (s : State) (p : Port) (q : Permit) :
    (s.handedOn p q).lines = q.lines ∧ (s.handedOn p q).hold = q.hold := by
  unfold State.handedOn
  split <;> exact ⟨rfl, rfl⟩

theorem State.parts_tornDown (s : State) (p : Port) : s.Parts (s.tornDown p) (s.stoppedOn p) := by
  have hlines : ∀ q, (s.unreferenced (s.stoppedOn p) (s.handedOn p q)).lines = q.lines := fun q =>
    (s.unreferenced_stands _ _).1.trans (s.handedOn_counts p q).1
  have hstate : ∀ q, (s.unreferenced (s.stoppedOn p) (s.handedOn p q)).state = q.state := fun q => by
    rw [State.state_unreferenced, State.state_handedOn]
  have hstays : ∀ j, s.stoppedOn p j = false → (∀ l, (s.tornDown p).claimsAt j l = s.claimsAt j l) ∧
      (s.tornDown p).waitingAt j = s.waitingAt j := fun j hj => by
    have hslot := s.slot_tornDown p j
    rw [hj, if_neg Bool.false_ne_true] at hslot
    have hhandle : (s.tornDown p).handle j = s.handle j := by rw [State.handle, State.handle, hslot]
    have hpermit : (s.tornDown p).permit j = (s.permit j).map fun q => s.unreferenced (s.stoppedOn p) (s.handedOn p q) := by
      rw [State.permit, hslot]
    cases hq : s.permit j with
    | none =>
      rw [hq] at hpermit
      exact ⟨fun l => by rw [State.claimsAt, State.claimsAt, hq, hpermit]; rfl, by rw [State.waitingAt, State.waitingAt, hq, hpermit]; rfl⟩
    | some q =>
      rw [hq] at hpermit
      refine ⟨fun l => ?_, ?_⟩
      · rw [State.claimsAt_of_permit hpermit, State.claimsAt_of_permit hq, Permit.names, Permit.names, hlines, hstate]
      · rw [State.waitingAt_of_permit hpermit, State.waitingAt_of_permit hq, hlines, hstate, hhandle]
  have hgone : ∀ j, s.stoppedOn p j = true → (s.tornDown p).permit j = none := fun j hj => by
    rw [State.permit, s.slot_tornDown, if_pos hj]
  refine ⟨s.drops_tornDown p, fun j p' hp' hin => ?_, fun j l => ?_, fun j => ?_⟩
  · obtain ⟨q, hq, -, rfl⟩ := State.permit_tornDown p hp'
    exact ⟨q, hq, (hstate q) ▸ hin, hlines q⟩
  · cases hj : s.stoppedOn p j with
    | false => exact (hstays j hj).1 l
    | true => rw [State.claimsAt, hgone j hj]; rfl
  · cases hj : s.stoppedOn p j with
    | false => exact (hstays j hj).2
    | true => rw [State.waitingAt, hgone j hj]; rfl

/-- A BLOCKED permit that a teardown does not retire, orphaned or not, waits on or is granted (R150). -/
theorem State.waitsOn_tornDown {s t : State} {p : Port} (hg : (s.tornDown p).Grants t) {j : SlotId} (hj : s.stoppedOn p j = false) :
    s.WaitsOn t j := by
  intro r hr hb
  have hslot := s.slot_tornDown p j
  rw [hj, if_neg Bool.false_ne_true, hr] at hslot
  have hhandle : t.handle j = s.handle j := by rw [State.handle, hg.gen, hslot]; rfl
  have hpermit : (s.tornDown p).permit j = some (s.unreferenced (s.stoppedOn p) (s.handedOn p r)) := by rw [State.permit, hslot]; rfl
  refine ⟨hhandle, s.unreferenced (s.stoppedOn p) (s.handedOn p r), ?_, ?_, ?_, fun ho hsame => ?_, ?_⟩
  · rw [State.state_unreferenced, State.state_handedOn, hb]
  · exact (s.unreferenced_stands _ _).1.trans (s.handedOn_counts p r).1
  · exact (s.unreferenced_hold _ _).trans (s.handedOn_counts p r).2
  · rw [State.owner_unreferenced, State.handedOn] at hsame
    rw [State.handedOn]
    split at hsame
    · exact absurd hsame.symm ho
    · next hnot => rw [if_neg hnot]; exact if_pos ho
  · obtain hsame | ⟨q, hq, -, hgranted⟩ := hg j
    · exact .inl (by rw [State.permit, hsame]; exact hpermit)
    · rw [hpermit] at hq
      cases hq
      exact .inr (by rw [State.permit, hgranted])

theorem State.QueuesHold.groupTakes_teardown {s t : State} {p : Port} (hs : s.QueuesHold) (hst : (s.teardown p).Steady t)
    (hslots : t.slots = (s.teardown p).slots) (ht : t.QueuesHold) (hl : t.LevelLaw) (g : GroupId) :
    s.GroupTakes t (s.stoppedOn p) g :=
  (s.parts_tornDown p).groupTakes hs hst ht hl
    (fun _ hj => State.waitsOn_tornDown ((State.grants_releaseGroups _).trans (.of_slots hslots)) hj) g

/-! ### What comes before the cause (R27, R36, R109) -/

/-- Two states with the same groups, claims and waiting permits, and the same permits but for those that leave. -/
structure State.SameHolds (s s' : State) (leaves : SlotId → Bool) : Prop where
  steady : s.Steady s'
  twins : s.Twins s' leaves
  lines : ∀ j, (s'.permit j).map (fun q => (q.state, q.lines)) = (s.permit j).map fun q => (q.state, q.lines)

theorem State.SameHolds.of_slots {s s' : State} (hs : s'.slots = s.slots) (hl : ∀ l, (s'.line l).claims = (s.line l).claims)
    (hg : ∀ g, s'.group g = s.group g) (leaves : SlotId → Bool) : s.SameHolds s' leaves where
  steady := State.steady_of_claims hs hl hg
  twins := State.twins_of_slots hs leaves
  lines j := by rw [State.permit_of_slots hs]

theorem State.SameHolds.of_write {s : State} {i : SlotId} {q q' : Permit} (here : s.permit i = some q) (ho : q'.owner = q.owner)
    (hst : q'.state = q.state) (hl : q'.lines = q.lines) : s.SameHolds (s.setPermit i q') fun j => j = i where
  steady := State.steady_setPermit here hst hl
  twins := State.twins_setPermit rfl here ho hst
  lines j := by
    rw [State.permit_setPermit]
    split
    · next h => rw [← h, here, Option.map_some, Option.map_some, hst, hl]
    · rfl

section
variable {s s' t : State} {leaves : SlotId → Bool} (h : s.SameHolds s' leaves)
include h

theorem State.SameHolds.queuesHold (hs : s.QueuesHold) : s'.QueuesHold := by
  have hq := h.steady.queueLaw (State.queueLaw_iff.mpr ⟨hs.match_, hs.free⟩)
  obtain ⟨hmatch, hfree⟩ := State.queueLaw_iff.mp hq
  refine ⟨⟨h.steady.claimLaw hs.groups.claim, hs.groups.members.of_members h.steady.members, fun j p' hp' hin => ?_,
    fun g => h.steady.claimsBounded (hs.groups.bounded g)⟩, h.steady.blockedLaw hs.blocked, hmatch, hfree⟩
  have hl := h.lines j
  rw [show s'.permit j = some p' from hp'] at hl
  obtain ⟨p, hp, heq⟩ := Option.map_eq_some_iff.mp hl.symm
  obtain ⟨hstate, hlines⟩ := Prod.mk.inj heq
  rw [← hlines, State.groupedCount_of_members h.steady.members]
  exact hs.groups.grouped j p hp (hstate ▸ hin)

theorem State.SameHolds.groupTakes {g : GroupId} (hg : s'.GroupTakes t leaves g) : s.GroupTakes t leaves g := by
  have hgroup := h.steady.group g
  have hclaimants : ∀ l, s'.claimants l = s.claimants l := fun l => by
    rw [State.claimants_eq, State.claimants_eq]
    exact List.filter_congr fun j _ => h.steady.claimsAt j l
  unfold State.GroupTakes at hg ⊢
  simp only [hgroup, hclaimants] at hg
  refine ⟨hg.1, fun l left claims hheld hleft hclaims => ?_⟩
  obtain ⟨hstays, hgap, hfree, hgrants⟩ := hg.2 l left claims hheld hleft hclaims
  refine ⟨hstays, hgap, hfree, fun h0 hnogap x rest hq => ?_⟩
  obtain ⟨r, r', m, hres, hline, hrest⟩ := hgrants h0 hnogap x rest hq
  have hmem : x ∈ (s.group g).queue.filter fun x => !leaves x.slot := by rw [← hleft, hq]; exact List.mem_cons_self
  have hx : leaves x.slot = false := by simpa using (List.mem_filter.mp hmem).2
  refine ⟨r, r', m, ?_, ?_, hrest⟩
  · rw [← hres, State.resolve, State.resolve, h.twins.gen, h.twins.permit _ hx]
  · rw [← hline, State.memberLine_of_members h.steady.members]

end

end Sys2Proof.Machine
end

section
/-! SUPPORT. What a normal end leaves of a group: as an abnormal end where no successor takes a trigger, and a gap that no trigger ends
(R61, R92, R94). -/

namespace Sys2Proof.Machine

set_option Elab.async false

/-! ### No trigger ends a gap (R92, R94) -/

section
variable {s t : State} {g : GroupId} {n : Nat}

theorem State.gap_releaseGroups (h : (s.group g).state = .gap n) : (s.releaseGroups.group g).state = .gap n := by
  suffices s.releaseGroups.group g = s.group g by rw [this]; exact h
  refine foldl_keeps (P := fun t : State => t.group g = s.group g) (fun t g' ht => ?_) _ rfl
  split
  · next hr =>
    obtain ⟨l, hl, -⟩ := State.holderReleased_iff.mp hr
    have hne : g ≠ g' := fun he => by
      rw [← he, ht, h] at hl
      cases hl
    rw [State.group_releaseGroup_other _ hne, ht]
  · exact ht

theorem State.gap_raise (h : (s.group g).state = .gap n) (i : SlotId) (k : Notice) : ((s.raise i k).group g).state = .gap n := by
  rwa [State.group_raise]

theorem State.gap_enterBlocked (h : (s.group g).state = .gap n) (i : SlotId) (g' : GroupId) :
    ((s.enterBlocked i g').group g).state = .gap n := by
  unfold State.enterBlocked
  split
  · exact h
  · refine State.gap_raise ?_ i .blocked
    rw [State.group_setPermit, State.group_setGroup]
    split
    · next he => rw [he]; exact h
    · exact h

theorem State.group_enterActive (s : State) (i : SlotId) (b : Bool) (g : GroupId) : (s.enterActive i b).group g = s.group g := by
  cases hp : s.permit i with
  | none => rw [State.enterActive, hp]
  | some p => exact (State.claims_enterActive hp b).group g

theorem State.gap_activate (h : (s.group g).state = .gap n) (i : SlotId) : ((s.activate i).group g).state = .gap n := by
  unfold State.activate
  split
  · exact h
  · split
    · rwa [State.group_enterActive]
    · next g' l _ =>
      dsimp only
      split
      · next hanswers =>
        have hne : g' ≠ g := fun he => by
          rw [he, Group.answersNow, h, Bool.and_false] at hanswers
          cases hanswers
        rwa [State.group_enterActive, State.group_setGroup, if_neg hne]
      · exact State.gap_enterBlocked h i g'

theorem State.gap_beginRun (h : (s.group g).state = .gap n) (i : SlotId) : ((s.beginRun i).group g).state = .gap n := by
  unfold State.beginRun
  split
  · exact h
  · split
    · exact State.gap_activate h i
    · exact h

theorem State.gap_leaveQueues (h : (s.group g).state = .gap n) (x : Handle) : ((s.leaveQueues x).group g).state = .gap n := by
  rwa [State.leaveQueues, State.group_mapGroups]

theorem State.gap_restart (h : (s.group g).state = .gap n) (i : SlotId) (p : Permit) : ((s.restart i p).group g).state = .gap n := by
  have hrun : ((((s.setPermit i p.clearCounters).beginRun i).raise i .triggered).group g).state = .gap n :=
    State.gap_raise (State.gap_beginRun (s := s.setPermit i p.clearCounters) h i) i _
  cases hs : p.state with
  | active =>
    by_cases hw : p.wait = 0
    · rw [State.restart_inPlace s i hs hw]
      exact State.gap_raise (s := s.setPermit i _) h i _
    · rw [State.restart_toWait s i hs (Nat.pos_of_ne_zero hw)]
      exact State.gap_raise (State.gap_releaseGroups (s := (s.removeClaims p.lines).setPermit i _) h) i _
  | blocked =>
    rw [State.restart_fromBlocked s i hs]
    exact State.gap_raise (State.gap_beginRun (s := (s.leaveQueues _).setPermit i _) (State.gap_leaveQueues h _) i) i _
  | waiting => rw [State.restart_fromWait s i (.inl hs)]; exact hrun
  | resting => rw [State.restart_fromWait s i (.inr hs)]; exact hrun
  | idle | arming | armed | ended => simp only [State.restart, hs]; exact h

theorem State.gap_takeTrigger (h : (s.group g).state = .gap n) (i : SlotId) : ((s.takeTrigger i).2.group g).state = .gap n := by
  unfold State.takeTrigger
  split
  · exact h
  · split
    · exact h
    · exact h
    · exact State.gap_raise h i _
    · split
      · exact State.gap_raise (State.gap_beginRun (s := s.setPermit i _) h i) i _
      · exact State.gap_raise h i _
    all_goals
      split
      · exact State.gap_restart h i _
      · exact State.gap_raise h i _

end

theorem State.triggerAll_passes {s : State} {xs : List SlotId} (h : ∀ j ∈ xs, (s.takeTrigger j).2 = s) : s.triggerAll xs = s := by
  induction xs with
  | nil => rfl
  | cons j rest ih =>
    rw [State.triggerAll, List.foldl_cons, h j List.mem_cons_self]
    exact ih fun k hk => h k (List.mem_cons_of_mem j hk)

/-! ### The stages of a normal end at a group (R61, R62) -/

section
variable {s : State} {i : SlotId} {q : Permit} (here : s.permit i = some q) (r : EndReason)
include here

theorem State.group_endNormal (g : GroupId) : (s.endNormal i r).group g = (s.relayed i r).group g := by
  have hgrips : ∀ p, (s.relayed i r).permit i = some p → grips p.state = false := fun p hp => by
    rw [State.permit, State.slot_relayed here r] at hp
    cases hp
    rw [Permit.state_raised]; rfl
  exact (State.steady_retireIfOrphan hgrips).group g

/-- With no successor in service no trigger does anything (R61). -/
theorem State.relayed_alone (halone : ∀ j, ∀ p ∈ s.permit j, p.trigger = .chain (some (s.handle i)) → p.state.inService = false) :
    s.relayed i r = (s.endedAt i r).drawn := by
  refine State.triggerAll_passes fun j hj => ?_
  have hout : ∃ p, (s.endedAt i r).permit j = some p ∧ (p.state = .idle ∨ p.state = .ended) := by
    by_cases hij : i = j
    · rw [← hij, State.permit, State.slot_endedAt here r]
      exact ⟨_, rfl, .inr (by rw [Permit.state_raised]; rfl)⟩
    · obtain ⟨p, hp, hf⟩ := (State.mem_relay r hij).mp hj
      have hout := halone j p hp hf
      have hstate : p.state = .idle ∨ p.state = .ended := by
        cases hs : p.state <;> simp_all [PState.inService]
      refine ⟨p, ?_, hstate⟩
      rw [State.permit, (s.grantsAt_endedAt hij r).slot_of_notBlocked fun p' hp' => ?_]
      · exact hp
      · rw [hp] at hp'
        cases hp'
        obtain h | h := hstate <;> rw [h] <;> exact nofun
  obtain ⟨p, hp, hstate⟩ := hout
  rw [State.takeTrigger_outOfService (s := (s.endedAt i r).drawn) hp hstate]

theorem State.QueuesHold.groupTakes_endNormal (hs : s.QueuesHold)
    (halone : ∀ j, ∀ p ∈ s.permit j, p.trigger = .chain (some (s.handle i)) → p.state.inService = false) (g : GroupId) :
    s.GroupTakes (s.endNormal i r).settleLevels (fun j => j = i) g := by
  have hqueues := (State.whole_endNormal (k := .ends) rfl s i r).via.queuesHold hs
  have hrelayed := State.relayed_alone here r halone
  have htail : (s.enterEnded i r).releaseGroups.Steady (s.endNormal i r) := by
    rw [State.endNormal_eq, hrelayed]
    exact ((State.steady_raise _ i .ended).trans (State.steady_drawn _)).trans (State.steady_retireIfOrphan
      (s := ((s.enterEnded i r).releaseGroups.raise i .ended).drawn)
      (State.grips_raise .ended (State.grips_releaseGroups State.grips_enterEnded)))
  refine ((State.letsGo_enterEnded here r).parts State.served_enterEnded).groupTakes hs (htail.trans (State.steady_settleLevels _))
    hqueues.settle (State.levelLaw_settleLevels _) (fun j hj => ?_) g
  have hij : i ≠ j := Ne.symm (of_decide_eq_false hj)
  have hslots : (s.endNormal i r).settleLevels.slots = (s.endNormal i r).slots := (State.marks_settleLevels _).slots
  refine State.Stays.waitsOn (gone := s.orphansOf fun k => k = i) fun p hp _ => ?_
  refine State.GrantsAt.stays (x := s.relayed i r) ?_ hp ?_
  · rw [hrelayed]
    exact s.grantsAt_endedAt hij r
  · rw [State.slot_of_slots hslots]
    exact State.slot_endNormal_other here r hij

/-- The last claim on a holder line, gone with its permit, starts the gap, and the triggers of the successors leave it (R92, R94). -/
theorem State.QueuesHold.gap_endNormal (hs : s.QueuesHold) {g : GroupId} {l : LineId} (hheld : (s.group g).state = .held l)
    (hactive : q.state = .active) (hnames : q.names l = true) (hlast : (s.line l).claims = 1) (hgap : 0 < (s.group g).gap) :
    let t := (s.endNormal i r).settleLevels
    (t.group g).state = .gap (s.group g).gap ∧ (t.line l).claims = 0 ∧ (t.line l).asserted = false := by
  intro t
  have hqueues : t.QueuesHold := ((State.whole_endNormal (k := .ends) rfl s i r).via.queuesHold hs).settle
  have hletsGo := State.letsGo_enterEnded here r
  have hparts := hletsGo.parts State.served_enterEnded
  have hg := hletsGo.group g
  have hclaims : ((s.enterEnded i r).line l).claims = 0 := by
    rw [hletsGo.claims, State.claimsAt_of_permit here, hactive, hnames, hlast]
    rfl
  have hreleased : (s.enterEnded i r).holderReleased g = true :=
    State.holderReleased_iff.mpr ⟨l, by rw [hg]; exact hheld, hclaims⟩
  have hstart : ((s.enterEnded i r).releaseGroups.group g).state = .gap (s.group g).gap := by
    rw [(((hparts.queuesHold hs).releases g).2 hreleased).1 (by rw [hg]; exact hgap), hg]
  have hrelayed : ((s.relayed i r).group g).state = .gap (s.group g).gap :=
    foldl_keeps (P := fun t : State => (t.group g).state = .gap (s.group g).gap) (fun t j ht => State.gap_takeTrigger ht j) _
      (State.gap_raise (s := (s.enterEnded i r).releaseGroups) hstart i .ended)
  have hend : (t.group g).state = .gap (s.group g).gap := by
    rw [(State.marks_settleLevels _).group, State.group_endNormal here]
    exact hrelayed
  have hhas : (t.group g).has l = true := by
    have hm : (t.group g).members = (s.group g).members := by
      rw [(State.marks_settleLevels _).group, (State.whole_endNormal (k := .ends) rfl s i r).beats.stands.members]
    rw [Group.has, hm]
    exact (hs.groups.bounded g).2 l hheld
  have hzero : (t.line l).claims = 0 := by
    by_contra hpos
    have := (hqueues.groups.bounded g).1 l hhas (Nat.pos_of_ne_zero hpos)
    rw [hend] at this
    cases this
  refine ⟨hend, hzero, ?_⟩
  have hlevel : t.LevelLaw := State.levelLaw_settleLevels _
  rw [hlevel l, hzero]
  rfl

theorem State.QueuesHold.groupTakesNormalEnd (hs : s.QueuesHold) (g : GroupId) :
    s.GroupTakesNormalEnd (s.endNormal i r).settleLevels i q g :=
  ⟨fun halone => hs.groupTakes_endNormal here r halone g,
    fun _ hheld hactive hnames hlast hgap => hs.gap_endNormal here r hheld hactive hnames hlast hgap⟩

end

end Sys2Proof.Machine
end

section
/-! SUPPORT. Every cause of a release as the command that brings it about takes it (R33, R54, R94, R105, R150). -/

namespace Sys2Proof.Machine

set_option Elab.async false

theorem State.queuesHold_of_laws {s : State} (hx : s.ExclusionLaw) (hb : s.BlockedLaw) (hq : s.QueueLaw) : s.QueuesHold :=
  ⟨(State.exclusionLaw_iff.mp hx).2.1, hb, (State.queueLaw_iff.mp hq).1, (State.queueLaw_iff.mp hq).2⟩

theorem State.Took.sameHolds {s s0 : State} (h : s.Took s0) (leaves : SlotId → Bool) : s.SameHolds s0 leaves :=
  .of_slots h.slots (fun l => by rw [h.line]) h.group leaves

theorem State.Took.sameHolds_setLine {s s0 : State} (h : s.Took s0) {l : LineId} {x : Line} (hx : x.claims = (s.line l).claims)
    (leaves : SlotId → Bool) : s.SameHolds (s0.setLine l x) leaves :=
  .of_slots (s' := s0.setLine l x) h.slots (fun l' => by
    rw [State.line_setLine, h.line]
    split
    · next he => rw [← he, hx]
    · rfl) h.group leaves

theorem State.Took.groupTakesNormalEnd {s s0 t : State} (h : s.Took s0) {i : SlotId} {q : Permit} {g : GroupId}
    (hn : s0.GroupTakesNormalEnd t i q g) : s.GroupTakesNormalEnd t i q g := by
  obtain ⟨halone, hlast⟩ := hn
  have hhandle : s0.handle i = s.handle i := by rw [State.handle, State.handle, State.slot_of_slots h.slots]
  simp only [State.permit_of_slots h.slots, hhandle] at halone
  simp only [h.group, h.line] at hlast
  exact ⟨fun hno => (h.sameHolds _).groupTakes (halone hno), hlast⟩

theorem State.detach_active {s : State} {i : SlotId} {q : Permit} (here : s.permit i = some q) (ha : q.state = .active) :
    s.detach i = s.removeClaims q.lines := by
  simp only [State.detach, here, ha]

/-! ### Stops (R33, R34, R54) -/

section
variable {s : State} {i : SlotId} {q : Permit} (hs : s.QueuesHold) (here : s.permit i = some q) (ha : q.state = .active) (g : GroupId)
include hs here ha

theorem State.QueuesHold.groupTakes_trainRests {rest repeats : Nat} (hr : q.remaining = 1) (hshape : q.shape = .train rest repeats)
    (hc : ¬(0 < repeats ∧ repeats ≤ q.cycles)) : s.GroupTakes (s.permitTick i).settleLevels (fun j => j = i) g := by
  have hqueues := (State.whole_permitTick (k := .ends) rfl s i).via.queuesHold hs
  have heq := State.permitTick_trainRests here ha hr hshape hc
  rw [← State.detach_active here ha] at heq
  rw [heq] at hqueues ⊢
  exact hs.groupTakes_stop (q' := { q with state := .resting, remaining := rest }) here (by rw [ha]; rfl) (.inr rfl) rfl (State.steady_settleLevels _) hqueues.settle
    (State.levelLaw_settleLevels _) (fun j _ => State.slot_of_slots (State.marks_settleLevels _).slots j) g

theorem State.QueuesHold.groupTakes_restart (hre : q.retrigger = .restart) (hw : 0 < q.wait) (hgate : s.gateOpen q = true) :
    s.GroupTakes (s.takeTrigger i).2.settleLevels (fun j => j = i) g := by
  have hqueues := (State.whole_takeTrigger (k := .ends) rfl s i).via.queuesHold hs
  have heq : (s.takeTrigger i).2 = s.restart i q := by
    rw [State.takeTrigger_running here (by rw [ha]; rfl), hre, hgate]; rfl
  rw [State.restart_toWait s i ha hw, ← State.detach_active here ha] at heq
  rw [heq] at hqueues ⊢
  refine hs.groupTakes_stop (q' := { q.clearCounters with state := .waiting, remaining := q.wait }) here (by rw [ha]; rfl) (.inl rfl) rfl
    ((State.steady_raise _ i .triggered).trans (State.steady_settleLevels _))
    hqueues.settle (State.levelLaw_settleLevels _) (fun j hj => ?_) g
  rw [State.slot_of_slots (State.marks_settleLevels _).slots, State.slot_raise _ (Ne.symm hj)]

end

/-! ### Ticks, locks and teardowns (R36, R105, R150) -/

theorem State.QueuesHold.groupTakes_lease {s : State} {i : SlotId} {q : Permit} (hs : s.QueuesHold) (here : s.permit i = some q)
    (ha : q.state = .active) (hr : q.remaining = 1) (hl : q.shape.isLease = true) (g : GroupId) :
    s.GroupTakes (s.permitTick i).settleLevels (fun j => j = i) g := by
  obtain ⟨src, m, hshape⟩ : ∃ src m, q.shape = .lease src m := by
    cases hshape : q.shape with
    | lease src m => exact ⟨src, m, rfl⟩
    | pulse | train => rw [hshape] at hl; cases hl
  rw [State.permitTick_lease here ha hr hshape]
  have hsame : s.SameHolds (s.setPermit i q.countHold) fun j => j = i := .of_write here rfl rfl rfl
  exact hsame.groupTakes ((hsame.queuesHold hs).groupTakes_endAbnormal (q := q.countHold) (by simp) .expired g)

theorem State.QueuesHold.groupTakes_starves {s : State} {i : SlotId} {q : Permit} {b : Nat} (hs : s.QueuesHold) (here : s.permit i = some q)
    (hblocked : q.state = .blocked) (hlimit : q.blockLimit = some b) (hage : b ≤ q.blockedAge + 1) (g : GroupId) :
    s.GroupTakes (s.permitTick i).settleLevels (fun j => j = i) g := by
  rw [State.permitTick_blocked here hblocked, State.blockedTickAt_limit s i hlimit, if_pos hage]
  have hsame : s.SameHolds (s.setPermit i { q with blockedAge := q.blockedAge + 1 }) fun j => j = i := .of_write here rfl rfl rfl
  exact hsame.groupTakes ((hsame.queuesHold hs).groupTakes_endAbnormal (q := { q with blockedAge := q.blockedAge + 1 }) (by simp) .starved g)

theorem State.QueuesHold.groupTakes_lockBy {s : State} (hs : s.QueuesHold) (l : LineId) (c : LockCause) (g : GroupId) :
    s.GroupTakes (s.lockBy l c).settleLevels (fun j => (s.permit j).any fun r => r.state.inService && r.names l) g := by
  have hm := s.marks_marked l c
  have hsame : s.SameHolds (s.marked l c) fun j => (s.permit j).any fun r => r.state.inService && r.names l :=
    .of_slots hm.slots (fun l => (hm.line l).1) hm.group _
  have hb := State.begins_all (s.marked l c) (fun r => r.state.inService && r.names l) .lineLocked
  simp only [State.permit_of_slots hm.slots] at hb
  rw [State.lockBy_eq]
  exact hsame.groupTakes ((hsame.queuesHold hs).groupTakes_endMany (State.nodup_work ..) hb g)

theorem State.QueuesHold.groupTakes_closes {s : State} (hs : s.QueuesHold) (p : Port) (g : GroupId) :
    s.GroupTakes (s.teardown p).settleLevels (s.stoppedOn p) g :=
  hs.groupTakes_teardown (State.steady_settleLevels _) (State.marks_settleLevels _).slots
    ((s.whole_teardown p).via.queuesHold hs).settle (State.levelLaw_settleLevels _) g

theorem State.sameHolds_setPort (s : State) (p : Port) (x : PortUnit) : s.SameHolds (s.setPort p x) fun _ => false :=
  .of_slots (s := s) (s' := s.setPort p x) rfl (fun _ => rfl) (fun _ => rfl) _

theorem State.QueuesHold.groupTakes_breakAt {s : State} (hs : s.QueuesHold) {p : Port} (hopen : (s.port p).isOpen = true) (g : GroupId) :
    s.GroupTakes (s.breakAt p) (s.stoppedOn p) g := by
  rw [State.breakAt_eq, State.torn_open hopen]
  have hport := (s.teardown p).steady_setPort p ((s.teardown p).port p).broken
  have hsame := (s.teardown p).sameHolds_setPort p ((s.teardown p).port p).broken
  exact hs.groupTakes_teardown (hport.trans (State.steady_settleLevels _)) (State.marks_settleLevels _).slots
    (hsame.queuesHold ((s.whole_teardown p).via.queuesHold hs)).settle (State.levelLaw_settleLevels _) g

end Sys2Proof.Machine

open Sys2Proof Sys2Proof.Machine

set_option Elab.async false

/-- Settles O38: each cause takes its permits off their claims and queues, and the releases after leave each group as its claims say. -/
theorem groupsTakeReleases : Obligations.GroupsTakeReleases := by
  intro s g hexclusion hblockedLaw hqueueLaw hlow
  have hs := State.queuesHold_of_laws hexclusion hblockedLaw hqueueLaw
  refine ⟨fun i q here => ⟨fun c hdue hcause => ?_, fun f h hturn hopen hnames hservice => ?_, fun hdue ha howned hpos hinside => ?_,
    fun ha hre hw hgate => hs.groupTakes_restart here ha g hre hw (State.gateOpen_iff.mpr hgate), fun c hdue ha hr hcause => ?_,
    fun p f h hturn hpasses hservice => ?_⟩, fun l named hnormal hnamed => ⟨fun f b hturn hsup hb => ?_, fun high hdue hon hne htol => ?_⟩,
    fun p stopped _ hopen hstopped => ⟨fun f hturn => ?_, fun x hx => ?_⟩⟩
  · have htook : s.Took (s.tickTaken i) := s.took_due _
    have hsame := htook.sameHolds fun j => j = i
    have hs0 := hsame.queuesHold hs
    have here0 : (s.tickTaken i).permit i = some q := here
    obtain ⟨hexec, htakes⟩ : exec c s = .next ((s.tickTaken i).permitTick i).settleLevels ∧
        (s.tickTaken i).GroupTakes ((s.tickTaken i).permitTick i).settleLevels (fun j => j = i) g := by
      obtain ⟨rfl, ha, hr, hl⟩ | ⟨rfl, ha, hr, rest, repeats, hshape, hc⟩ | ⟨rfl, hb, b, hlimit, hage⟩ := hcause
      · exact ⟨congrArg Host.Outcome.next (State.takePermitTick_eq hlow here hdue (by simp [Permit.lastTick_of ha hr, hl])),
          hs0.groupTakes_lease here0 ha hr hl g⟩
      · exact ⟨congrArg Host.Outcome.next
          (State.takePermitTick_eq hlow here hdue (by simp [Permit.lastTick_of ha hr, hshape, Shape.isTrain])),
          hs0.groupTakes_trainRests here0 ha g hr hshape hc⟩
      · exact ⟨congrArg Host.Outcome.next (State.takePermitTick_eq hlow here hdue (by simp [Permit.starvesNext, hb, hlimit, hage])),
          hs0.groupTakes_starves here0 hb hlimit hage g⟩
    exact ⟨_, hexec, State.levelLaw_settleLevels _, hsame.groupTakes htakes⟩
  · obtain ⟨hslot, hgen, here'⟩ := hnames
    have hrun : s.runRevoke 0 h = answer (s.endAbnormal i .revoked) [] := by
      rw [State.runRevoke, State.withPermit, State.checkHandle_revoke hopen hslot hgen here']
      exact State.checked_passes (by simp [hservice])
    exact ⟨_, congrArg Host.Outcome.next (State.execute_settled hturn (congrArg some hrun)), State.levelLaw_settleLevels _,
      hs.groupTakes_endAbnormal here .revoked g⟩
  · generalize hs0 : ({ s with due := s.due.erase (.renewal (s.handle i)) } : State) = s0
    have htook : s.Took s0 := hs0 ▸ s.took_due _
    have hsame := htook.sameHolds fun j => j = i
    have here0 : s0.permit i = some q := (State.permit_of_slots htook.slots i).trans here
    have hin : q.insideWindow = true := decide_eq_true ⟨hpos, hinside⟩
    rw [State.exec_inputRenewal hlow hdue hs0.symm, State.takeRenewal_acts here0 ha howned, hin, if_pos rfl]
    exact ⟨_, rfl, State.levelLaw_settleLevels _, hsame.groupTakes ((hsame.queuesHold hs).groupTakes_endAbnormal here0 .renewEarly g)⟩
  · have htook : s.Took (s.tickTaken i) := s.took_due _
    have hs0 := (htook.sameHolds fun j => j = i).queuesHold hs
    have here0 : (s.tickTaken i).permit i = some q := here
    obtain ⟨hexec, hend⟩ : exec c s = .next ((s.tickTaken i).permitTick i).settleLevels ∧
        (s.tickTaken i).permitTick i = (s.tickTaken i).endNormal i .completed := by
      obtain ⟨rfl, hshape⟩ | ⟨rfl, rest, repeats, hshape, hc⟩ := hcause
      · exact ⟨congrArg Host.Outcome.next (State.takePermitTick_eq hlow here hdue (by simp [Permit.lastTick_of ha hr, hshape])),
          State.permitTick_pulse here0 ha hr hshape⟩
      · exact ⟨congrArg Host.Outcome.next
          (State.takePermitTick_eq hlow here hdue (by simp [Permit.lastTick_of ha hr, hshape, Shape.isTrain])),
          State.permitTick_trainCompletes here0 ha hr hshape hc⟩
    rw [hend] at hexec
    exact ⟨_, hexec, State.levelLaw_settleLevels _, htook.groupTakesNormalEnd (hs0.groupTakesNormalEnd here0 .completed g)⟩
  · exact ⟨(s.endNormal i .released).settleLevels,
      congrArg Host.Outcome.next (hpasses.execute_settled hturn rfl (State.checked_passes (by simp [hservice]))),
      State.levelLaw_settleLevels _, hs.groupTakesNormalEnd here .released g⟩
  · subst hnamed
    refine ⟨(s.lockBy l .manual).settleLevels, congrArg Host.Outcome.next (hsup.execute_settled hturn rfl ?_),
      State.levelLaw_settleLevels _, hs.groupTakes_lockBy l .manual g⟩
    rw [indexOf_eq_some.mpr hb]
    exact State.checked_passes (by simp [hnormal, Condition.isLocked])
  · subst hnamed
    generalize hs0 : ({ s with due := s.due.erase (.lineTick (s.line l).checkTimebase l) } : State) = s0
    have htook : s.Took s0 := hs0 ▸ s.took_due _
    have htick : s0.senseTick l high = (s0.setLine l { s.line l with mismatch := (s.line l).mismatch + 1 }).lockBy l .sense := by
      unfold State.senseTick
      dsimp only
      rw [htook.line, if_pos (Line.checking_iff.mpr ⟨hon, hnormal⟩), if_neg hne, if_pos htol]
    have hsame := htook.sameHolds_setLine (l := l) (x := { s.line l with mismatch := (s.line l).mismatch + 1 }) rfl fun j =>
      (s.permit j).any fun r => r.state.inService && r.names l
    have htakes := (hsame.queuesHold hs).groupTakes_lockBy l .sense g
    simp only [State.permit_setLine, State.permit_of_slots htook.slots] at htakes
    refine ⟨_, (exec_senseLock hlow hdue (Line.locksOn_of hon hnormal hne htol)).trans (congrArg Host.Outcome.next ?_),
      State.levelLaw_settleLevels _, hsame.groupTakes htakes⟩
    rw [hs0, htick]
  · subst hstopped
    have hrun : s.runClose p = answer (s.teardown p) [byteOf (s.teardownCounts p).1, byteOf (s.teardownCounts p).2] := if_pos hopen
    exact ⟨_, _, congrArg Host.Outcome.next (State.execute_settled hturn (congrArg some hrun)), State.levelLaw_settleLevels _,
      hs.groupTakes_closes p g⟩
  · subst hstopped
    refine ⟨s.breakAt p, State.execBreak_eq hlow hx, ?_, hs.groupTakes_breakAt hopen g⟩
    rw [State.breakAt_eq]
    exact State.levelLaw_settleLevels _

end
